-- ==== Sys2Proof/Word.lean ====
section
/-! DEFINITION. The word types of the block: 32-bit words of the command stream (R8, R100), 16-bit fields,
24-bit framebuffer cells (R70), bytes of the host's byte image (R77). -/

namespace Sys2Proof

/-- A word of the command stream (R8: "Words are 32 bits"). -/
abbrev Word := BitVec 32

/-- A 16-bit field: a coordinate (s16) or a rectangle member (u16) (R7). -/
abbrev Half := BitVec 16

/-- One framebuffer cell, the memory's smallest unit (R70). -/
abbrev Cell := BitVec 24

/-- A byte of the host-facing byte image (R77). -/
abbrev Byte := BitVec 8

end Sys2Proof
end

