-- ==== Sys2Proof/Config.lean ====
section
/-! DEFINITION. The parameters a model takes as configuration (R6) and the free values the spec leaves OPEN
(R6, D25, D31). The parameters `DITHER_N` = 4, `INTERNAL_SCALE` = 1 and `BUFFER_POLICY` = BLOCK are fixed by R6 and stand
in the definitions that use them. -/

namespace Sys2Proof

/-- `DISPLAY_MODE` (R37): the visible window of the framebuffer and the pixel format (`d24` = 24-bit direct color). -/
structure DisplayMode where
  dx : Half
  dy : Half
  dw : Half
  dh : Half
  d24 : Bool
  deriving DecidableEq, Repr

/-- The parameters of R6. State carries one, which no step changes (log 6), so a statement over all states is a
statement over all parameters. -/
structure Config where
  /-- `FB_W`, 1..65535 -/
  fbW : Nat
  /-- `FB_H`, 1..65535 -/
  fbH : Nat
  /-- `BACKGROUND` -/
  background : Cell
  /-- `DEFAULT_DISPLAY_MODE` -/
  defaultDisplayMode : DisplayMode
  /-- `STRICT_SETTERS` -/
  strictSetters : Bool
  /-- `CLEAR_ON_PREPARE` -/
  clearOnPrepare : Bool
  /-- `ASPECT_NUM` -/
  aspectNum : Half
  /-- `ASPECT_DEN` -/
  aspectDen : Half
  /-- `FPS_MHZ_NTSC` -/
  fpsMhzNtsc : BitVec 32
  /-- `FPS_MHZ_PAL` -/
  fpsMhzPal : BitVec 32
  /-- `LINES_NTSC` -/
  linesNtsc : Half
  /-- `LINES_PAL` -/
  linesPal : Half
  deriving DecidableEq, Repr

/-- FREE VALUE (log 4): the environment's answer to the n-th draw of `OPEN_OK` (R140, D25), where State holds no answer
given beforehand. Nothing constrains it. -/
opaque Config.freeOpenOk : Nat → Bool

/-- FREE VALUE (log 5): `FPS_MHZ_NTSC`, OPEN in R6. -/
opaque Config.freeFpsMhzNtsc : BitVec 32

/-- FREE VALUE (log 5): `FPS_MHZ_PAL`, OPEN in R6. -/
opaque Config.freeFpsMhzPal : BitVec 32

/-- FREE VALUE (log 5): `LINES_NTSC`, OPEN in R6. -/
opaque Config.freeLinesNtsc : Half

/-- FREE VALUE (log 5): `LINES_PAL`, OPEN in R6. -/
opaque Config.freeLinesPal : Half

/-- The parameters at their defaults (R6); the four OPEN ones are the free values above. -/
def Config.defaults : Config where
  fbW := 1024
  fbH := 512
  background := 0
  defaultDisplayMode := ⟨0, 0, 640, 480, false⟩
  strictSetters := false
  clearOnPrepare := false
  aspectNum := 4
  aspectDen := 3
  fpsMhzNtsc := Config.freeFpsMhzNtsc
  fpsMhzPal := Config.freeFpsMhzPal
  linesNtsc := Config.freeLinesNtsc
  linesPal := Config.freeLinesPal

end Sys2Proof
end

