-- ==== Sys2Proof/Syntax.lean ====
section
/-! DEFINITION. The commands of the block: one constructor of `Instr` per row of spec/opcode_table.json (R107). Every
value of an operand is legal to decode (R104, R105, R106). -/

namespace Sys2Proof

/-- A vertex of PUSH_TRIANGLE (R190): a signed 16-bit position and a 32-bit packed color, reserved byte included. -/
structure Vertex where
  x : Half
  y : Half
  c : Word
  deriving DecidableEq, Repr

/-- The twelve commands (R107). -/
inductive Instr where
  /-- OPEN (R140): `isPal` is the header flag -/
  | openCore (isPal : Bool)
  /-- CLOSE (R142) -/
  | closeCore
  /-- GET_SYSTEM_AV_INFO (R143) -/
  | getSystemAvInfo
  /-- REFRESH_VARIABLES (R145) -/
  | refreshVariables
  /-- REGISTER_ENV_CALLBACK (R146) -/
  | registerEnvCallback
  /-- REGISTER_VIDEO_CALLBACK (R147) -/
  | registerVideoCallback
  /-- PREPARE_FRAME (R241) -/
  | prepareFrame
  /-- FINALIZE_FRAME (R244) -/
  | finalizeFrame
  /-- SET_DRAW_OFFSET (R170): x, y signed -/
  | setDrawOffset (x y : Half)
  /-- SET_DRAW_AREA (R171): x, y, w, h unsigned -/
  | setDrawArea (x y w h : Half)
  /-- SET_DISPLAY_MODE (R172): x, y, w, h unsigned; `d24` is the header flag -/
  | setDisplayMode (x y w h : Half) (d24 : Bool)
  /-- PUSH_TRIANGLE (R190): `dither` is the header flag -/
  | pushTriangle (v0 v1 v2 : Vertex) (dither : Bool)
  deriving DecidableEq, Repr

end Sys2Proof
end

