-- ==== Sys2Proof/WellFormed.lean ====
section
/-! DEFINITION. What a well-formed packet is (R100 to R103, R107 to R109), written from the opcode map itself and
independently of the decoder, so that "the decoder accepts exactly the well-formed packets" is a claim and not a
definition. An `Instr` is well formed by its types: every bit pattern of an argument word is legal (R104, R105, R106, R109),
so the checks live on packets. -/

namespace Sys2Proof

/-- One row of the opcode map R107: the opcode, the packet length in words, whether the flag bit is used. -/
structure OpRow where
  op : Nat
  len : Nat
  flagUsed : Bool
  deriving DecidableEq, Repr

/-- The opcode map (R107, with the lengths of R103 and the flags of R102). -/
def opcodeMap : List OpRow :=
  [⟨0x01, 1, true⟩, ⟨0x02, 1, false⟩, ⟨0x03, 1, false⟩, ⟨0x04, 1, false⟩, ⟨0x05, 1, false⟩, ⟨0x06, 1, false⟩,
   ⟨0x08, 1, false⟩, ⟨0x09, 1, false⟩, ⟨0x10, 2, false⟩, ⟨0x11, 3, false⟩, ⟨0x12, 3, true⟩, ⟨0x20, 7, true⟩]

/-- The row of an opcode, if it is assigned (R108). -/
def opRow (op : Nat) : Option OpRow := opcodeMap.find? (fun r => r.op == op)

/-- The row a header word is well formed for: an assigned opcode in bits 31..24 (R108), bits 23..1 zero, and bit 0 zero
unless the opcode uses its flag (R109). -/
def headerRow (w : Word) : Option OpRow :=
  match opRow (w.toNat / 2 ^ 24) with
  | none => none
  | some r =>
    if w.toNat / 2 % 2 ^ 23 = 0 ∧ (w.toNat % 2 = 0 ∨ r.flagUsed = true) then some r else none

/-- A packet is well formed when its header is and it has exactly the number of words its opcode gives (R100, R103). -/
def packetWellFormed (p : List Word) : Bool :=
  match p with
  | [] => false
  | w :: args =>
    match headerRow w with
    | none => false
    | some r => args.length + 1 == r.len

end Sys2Proof
end

