-- ==== Sys2Proof/Decode.lean ====
section
/-! DEFINITION. The decoder of R114, total on any stream and position, and the encoder of R101 to R107, with the
fields of the header and of the argument words. -/

namespace Sys2Proof

/-! ### Fields -/

/-- Header field `OP` = W[31:24] (R101). -/
def opField (w : Word) : BitVec 8 := w.extractLsb' 24 8

/-- Header field `RSV` = W[23:1] (R101). -/
def rsvField (w : Word) : BitVec 23 := w.extractLsb' 1 23

/-- Header field `F` = W[0] (R101). -/
def flagField (w : Word) : Bool := w.getLsbD 0

/-- W[15:0], the x or w half of an argument word (R104, R105). -/
def loHalf (w : Word) : Half := w.extractLsb' 0 16

/-- W[31:16], the y or h half of an argument word (R104, R105). -/
def hiHalf (w : Word) : Half := w.extractLsb' 16 16

/-- An argument word from its halves, the first in W[15:0] (R104, R105). -/
def pairWord (lo hi : Half) : Word := BitVec.ofNat 32 (2 ^ 16 * hi.toNat + lo.toNat)

/-! ### Opcodes -/

/-- The assigned opcodes (R107). -/
inductive Op where
  | openCore | closeCore | getSystemAvInfo | refreshVariables | registerEnvCallback | registerVideoCallback
  | prepareFrame | finalizeFrame | setDrawOffset | setDrawArea | setDisplayMode | pushTriangle
  deriving DecidableEq, Repr

/-- The opcode byte of R107. -/
def opByte : Op → BitVec 8
  | .openCore => 0x01
  | .closeCore => 0x02
  | .getSystemAvInfo => 0x03
  | .refreshVariables => 0x04
  | .registerEnvCallback => 0x05
  | .registerVideoCallback => 0x06
  | .prepareFrame => 0x08
  | .finalizeFrame => 0x09
  | .setDrawOffset => 0x10
  | .setDrawArea => 0x11
  | .setDisplayMode => 0x12
  | .pushTriangle => 0x20

/-- The assigned opcode of a byte; `none` is illegal (R108). -/
def opOfByte (b : BitVec 8) : Option Op :=
  if b = 0x01 then some .openCore
  else if b = 0x02 then some .closeCore
  else if b = 0x03 then some .getSystemAvInfo
  else if b = 0x04 then some .refreshVariables
  else if b = 0x05 then some .registerEnvCallback
  else if b = 0x06 then some .registerVideoCallback
  else if b = 0x08 then some .prepareFrame
  else if b = 0x09 then some .finalizeFrame
  else if b = 0x10 then some .setDrawOffset
  else if b = 0x11 then some .setDrawArea
  else if b = 0x12 then some .setDisplayMode
  else if b = 0x20 then some .pushTriangle
  else none

/-- `len(OP)`, the packet length in words, header included (R103). -/
def opLen : Op → Nat
  | .openCore => 1
  | .closeCore => 1
  | .getSystemAvInfo => 1
  | .refreshVariables => 1
  | .registerEnvCallback => 1
  | .registerVideoCallback => 1
  | .prepareFrame => 1
  | .finalizeFrame => 1
  | .setDrawOffset => 2
  | .setDrawArea => 3
  | .setDisplayMode => 3
  | .pushTriangle => 7

/-- Whether the opcode uses the flag bit (R101, R102). -/
def opUsesFlag : Op → Bool
  | .openCore => true
  | .closeCore => false
  | .getSystemAvInfo => false
  | .refreshVariables => false
  | .registerEnvCallback => false
  | .registerVideoCallback => false
  | .prepareFrame => false
  | .finalizeFrame => false
  | .setDrawOffset => false
  | .setDrawArea => false
  | .setDisplayMode => true
  | .pushTriangle => true

/-! ### The decoder -/

/-- What the decoder answers for the words at `POS` (R114). -/
inductive Verdict where
  /-- no word at `POS` -/
  | endOfStream
  /-- the header word is illegal (R108, R109) -/
  | illegal (w0 : Word)
  /-- a legal header whose argument words have not all arrived (R112) -/
  | incomplete
  /-- a whole packet -/
  | command (i : Instr)
  deriving DecidableEq, Repr

/-- The header's check (R108, R109): the opcode and the flag, or `none` for an illegal header. -/
def decodeHeader (w0 : Word) : Option (Op × Bool) :=
  match opOfByte (opField w0) with
  | none => none
  | some op =>
    if rsvField w0 ≠ 0 then none
    else if flagField w0 = true ∧ opUsesFlag op = false then none
    else some (op, flagField w0)

/-- A vertex from its POSW and COLW (R104, R106). -/
def vertexOf (p c : Word) : Vertex := ⟨loHalf p, hiHalf p, c⟩

/-- The command of a legal header from the words after it; too few of them is `incomplete` (R112, R114). -/
def decodeArgs (op : Op) (f : Bool) (args : List Word) : Verdict :=
  match op with
  | .openCore => .command (.openCore f)
  | .closeCore => .command .closeCore
  | .getSystemAvInfo => .command .getSystemAvInfo
  | .refreshVariables => .command .refreshVariables
  | .registerEnvCallback => .command .registerEnvCallback
  | .registerVideoCallback => .command .registerVideoCallback
  | .prepareFrame => .command .prepareFrame
  | .finalizeFrame => .command .finalizeFrame
  | .setDrawOffset =>
    match args with
    | a :: _ => .command (.setDrawOffset (loHalf a) (hiHalf a))
    | _ => .incomplete
  | .setDrawArea =>
    match args with
    | a :: b :: _ => .command (.setDrawArea (loHalf a) (hiHalf a) (loHalf b) (hiHalf b))
    | _ => .incomplete
  | .setDisplayMode =>
    match args with
    | a :: b :: _ => .command (.setDisplayMode (loHalf a) (hiHalf a) (loHalf b) (hiHalf b) f)
    | _ => .incomplete
  | .pushTriangle =>
    match args with
    | p0 :: c0 :: p1 :: c1 :: p2 :: c2 :: _ =>
      .command (.pushTriangle (vertexOf p0 c0) (vertexOf p1 c1) (vertexOf p2 c2) f)
    | _ => .incomplete

/-- The verdict on a list of words that starts at a header (R111, R114). -/
def decodeWords (ws : List Word) : Verdict :=
  match ws with
  | [] => .endOfStream
  | w0 :: args =>
    match decodeHeader w0 with
    | none => .illegal w0
    | some (op, f) => decodeArgs op f args

/-- The decoder of R114: the verdict on the words of the stream at `POS`. -/
def decode (stream : List Word) (pos : Nat) : Verdict := decodeWords (stream.drop pos)

/-! ### The encoder -/

/-- The opcode of a command (R107). -/
def opOf : Instr → Op
  | .openCore _ => .openCore
  | .closeCore => .closeCore
  | .getSystemAvInfo => .getSystemAvInfo
  | .refreshVariables => .refreshVariables
  | .registerEnvCallback => .registerEnvCallback
  | .registerVideoCallback => .registerVideoCallback
  | .prepareFrame => .prepareFrame
  | .finalizeFrame => .finalizeFrame
  | .setDrawOffset _ _ => .setDrawOffset
  | .setDrawArea _ _ _ _ => .setDrawArea
  | .setDisplayMode _ _ _ _ _ => .setDisplayMode
  | .pushTriangle _ _ _ _ => .pushTriangle

/-- The flag bit of a command's header (R102); 0 where the flag is reserved. -/
def flagOf : Instr → Bool
  | .openCore isPal => isPal
  | .closeCore => false
  | .getSystemAvInfo => false
  | .refreshVariables => false
  | .registerEnvCallback => false
  | .registerVideoCallback => false
  | .prepareFrame => false
  | .finalizeFrame => false
  | .setDrawOffset _ _ => false
  | .setDrawArea _ _ _ _ => false
  | .setDisplayMode _ _ _ _ d24 => d24
  | .pushTriangle _ _ _ dither => dither

/-- A header word: `OP : RSV = 0 : F` (R101). -/
def packHeader (op : BitVec 8) (f : Bool) : Word :=
  BitVec.ofNat 32 (2 ^ 24 * op.toNat + f.toNat)

/-- The header word of a command (R101). -/
def headerWord (i : Instr) : Word := packHeader (opByte (opOf i)) (flagOf i)

/-- The argument words of a command (R104 to R107). -/
def argWords : Instr → List Word
  | .openCore _ => []
  | .closeCore => []
  | .getSystemAvInfo => []
  | .refreshVariables => []
  | .registerEnvCallback => []
  | .registerVideoCallback => []
  | .prepareFrame => []
  | .finalizeFrame => []
  | .setDrawOffset x y => [pairWord x y]
  | .setDrawArea x y w h => [pairWord x y, pairWord w h]
  | .setDisplayMode x y w h _ => [pairWord x y, pairWord w h]
  | .pushTriangle v0 v1 v2 _ => [pairWord v0.x v0.y, v0.c, pairWord v1.x v1.y, v1.c, pairWord v2.x v2.y, v2.c]

/-- The packet of a command (R100, R107). -/
def encode (i : Instr) : List Word := headerWord i :: argWords i

/-- `len` of a command's packet (R103). -/
def packetLen (i : Instr) : Nat := opLen (opOf i)

/-! ### The words of an opcode-table row -/

/-- The seven words (the longest packet) of an instruction whose first `nbits` bits are `w`, bit 0 the least significant of
the first word, every later bit zero. -/
def tableWords (nbits w : Nat) : List Word :=
  (List.range 7).map (fun k => BitVec.ofNat 32 ((w % 2 ^ nbits) / 2 ^ (32 * k)))

/-- The command the decoder reads from such an instruction. -/
def decodeTableWord (nbits w : Nat) : Option Instr :=
  match decode (tableWords nbits w) 0 with
  | .command i => some i
  | .endOfStream => none
  | .illegal _ => none
  | .incomplete => none

end Sys2Proof
end

