-- ==== Sys2Proof/Machine/State.lean ====
section
/-! DEFINITION. The architectural state of the block (10_state.md), as plain data, and its power-up value (R49, R300). -/

namespace Sys2Proof.Machine

/-- The lifecycle states of R32 and R240. -/
inductive Lifecycle where
  | closed
  | idle
  | inFrame
  deriving DecidableEq, Repr

/-- The contract violations of R271, by name; their codes are `Violation.code`. -/
inductive Violation where
  | illegalCommand
  | notOpen
  | alreadyOpen
  | notInFrame
  | frameInProgress
  | displayModeRange
  deriving DecidableEq, Repr

/-- `FAULT` (R33): the code (0 = none), the faulting command's header word and its position. -/
structure FaultLatch where
  code : BitVec 3
  word : Word
  pos : Nat
  deriving DecidableEq, Repr

/-- `DRAW_OFFSET` (R35): two signed 16-bit numbers. -/
structure DrawOffset where
  ox : Half
  oy : Half
  deriving DecidableEq, Repr

/-- `DRAW_AREA` (R36): four unsigned 16-bit numbers. -/
structure DrawArea where
  ax : Half
  ay : Half
  aw : Half
  ah : Half
  deriving DecidableEq, Repr

/-- The framebuffer's cells (R38, R70): pairs of a linear index `y * FB_W + x` (R71) and a cell, indexes strictly
rising, no cell equal to `BACKGROUND`, which is what an unlisted cell reads as (log 9). -/
abbrev Memory := List (Nat × Cell)

/-- A presented frame (R39): `pix` holds `h` rows of `w` pixels, top to bottom, left to right. -/
structure Frame where
  w : Half
  h : Half
  d24 : Bool
  pix : List (List Cell)
  deriving DecidableEq, Repr

/-- The record GET_SYSTEM_AV_INFO reports (R144). -/
structure AvInfo where
  baseWidth : Half
  baseHeight : Half
  maxWidth : Half
  maxHeight : Half
  aspectNum : Half
  aspectDen : Half
  fpsMhz : BitVec 32
  totalLines : Half
  isPal : Bool
  depth24bpp : Bool
  deriving DecidableEq, Repr

/-- The output events of R43. -/
inductive Event where
  | openResult (ok : Bool)
  | avInfo (r : AvInfo)
  | videoRefresh (f : Frame)
  deriving DecidableEq, Repr

/-- Whose turn it is (R285, log 1): the command processor, the host consumer's release (R247), or the host's producer,
which sends one more word of the stream (R82, R112). -/
inductive Turn where
  | core
  | release
  | send (w : Word)
  deriving DecidableEq, Repr

/-- The whole machine (10_state.md section 2, 20_memory.md R74). `cfg` is the configuration of R6; `turns`,
`openAnswers` and `openDraws` are the model's own (log 1, log 4). -/
structure State where
  /-- the parameters of R6; no step changes them -/
  cfg : Config
  /-- `POS` (R31) -/
  pos : Nat
  /-- `LIFECYCLE` (R32) -/
  lifecycle : Lifecycle
  /-- `FAULT` (R33) -/
  fault : FaultLatch
  /-- `IS_PAL` (R34) -/
  isPal : Bool
  /-- `DRAW_OFFSET` (R35) -/
  drawOffset : DrawOffset
  /-- `DRAW_AREA` (R36) -/
  drawArea : DrawArea
  /-- `DISPLAY_MODE` (R37) -/
  displayMode : DisplayMode
  /-- `FB` (R38) -/
  fb : Memory
  /-- `PRESENT` (R39) -/
  present : Option Frame
  /-- `PRESENT_HELD` (R40) -/
  presentHeld : Bool
  /-- `ENV_BOUND` (R41) -/
  envBound : Bool
  /-- `VIDEO_BOUND` (R42) -/
  videoBound : Bool
  /-- `OUT` (R43), oldest first -/
  out : List Event
  /-- the command stream sent so far (R74, R100) -/
  stream : List Word
  /-- the agents' next turns; the command processor's where the list is empty (log 1) -/
  turns : List Turn
  /-- the environment's answers to the next OPENs, where given beforehand (log 4) -/
  openAnswers : List Bool
  /-- how many draws `OPEN_OK` were taken; indexes `Config.freeOpenOk` (log 4) -/
  openDraws : Nat
  deriving DecidableEq, Repr

/-- Why the machine stops. A contract violation is no stop of this kind: it latches `FAULT`, which is a next state. -/
inductive Fault where
  /-- Raised by PREPARE_FRAME (when it clears) and FINALIZE_FRAME for a display window with a cell outside the framebuffer: R72's
  model-internal fault. Unreachable, since no command writes such a mode (R37); safe (log 10). -/
  | fbOutOfBounds
  deriving DecidableEq, Repr

/-- Why the model gives no meaning. -/
inductive Refusal where
  /-- Raised by `exec` for an instruction without a meaning; safe. No arm raises it. -/
  | notModelled (mnemonic : String)
  deriving DecidableEq, Repr

/-- No fault latched (R33, R49). -/
def FaultLatch.none : FaultLatch := ⟨0, 0, 0⟩

/-- The power-up state (R49, R300). `isPal`, `drawOffset`, `drawArea`, `displayMode` and `fb` are unspecified and
unobservable there (R46): their values are the model's (log 7). Nothing of the stream has been sent (log 8). -/
def State.reset : State where
  cfg := Config.defaults
  pos := 0
  lifecycle := .closed
  fault := FaultLatch.none
  isPal := false
  drawOffset := ⟨0, 0⟩
  drawArea := ⟨0, 0, 0, 0⟩
  displayMode := Config.defaults.defaultDisplayMode
  fb := []
  present := Option.none
  presentHeld := false
  envBound := false
  videoBound := false
  out := []
  stream := []
  turns := []
  openAnswers := []
  openDraws := 0

end Sys2Proof.Machine
end

