-- ==== Sys2Proof/Machine/Flags.lean ====
section
/-! DEFINITION. The status computations of the block. No command sets a flag or condition code; what a command is
checked against is the legality table (R248) and the display-mode range (R173), and what a check leaves is a fault code (R271). -/

namespace Sys2Proof.Machine

/-- `FAULT.CODE` of a violation (R271). -/
def Violation.code : Violation → BitVec 3
  | .illegalCommand => 1
  | .notOpen => 2
  | .alreadyOpen => 3
  | .notInFrame => 4
  | .frameInProgress => 5
  | .displayModeRange => 6

/-- A command that is legal in Idle and InFrame only: NOT_OPEN in Closed (R248). -/
def whileOpen : Lifecycle → Option Violation
  | .closed => some .notOpen
  | .idle => none
  | .inFrame => none

/-- The setters' row of R248 (R174): legal in Idle unless `STRICT_SETTERS`. -/
def setterRow (strict : Bool) : Lifecycle → Option Violation
  | .closed => some .notOpen
  | .idle => if strict then some .notInFrame else none
  | .inFrame => none

/-- A command that is legal in Idle only: FRAME_IN_PROGRESS in InFrame (R248). -/
def whileIdle : Lifecycle → Option Violation
  | .closed => some .notOpen
  | .idle => none
  | .inFrame => some .frameInProgress

/-- A command that is legal in InFrame only: NOT_IN_FRAME in Idle (R248). -/
def whileInFrame : Lifecycle → Option Violation
  | .closed => some .notOpen
  | .idle => some .notInFrame
  | .inFrame => none

/-- OPEN's row of R248: legal in Closed only. -/
def whileClosed : Lifecycle → Option Violation
  | .closed => none
  | .idle => some .alreadyOpen
  | .inFrame => some .alreadyOpen

/-- The legality table R248: the fault a command raises in a lifecycle state, or `none` where it executes. -/
def legality (strict : Bool) (i : Instr) (l : Lifecycle) : Option Violation :=
  match i with
  | .openCore _ => whileClosed l
  | .closeCore => whileIdle l
  | .getSystemAvInfo => whileOpen l
  | .refreshVariables => whileOpen l
  | .registerEnvCallback => none
  | .registerVideoCallback => none
  | .prepareFrame => whileIdle l
  | .finalizeFrame => whileInFrame l
  | .setDrawOffset _ _ => setterRow strict l
  | .setDrawArea _ _ _ _ => setterRow strict l
  | .setDisplayMode _ _ _ _ _ => setterRow strict l
  | .pushTriangle _ _ _ _ => whileInFrame l

/-- The display-mode range R173, sums without wrap. -/
def modeInRange (cfg : Config) (m : DisplayMode) : Bool :=
  decide (1 ≤ m.dw.toNat ∧ 1 ≤ m.dh.toNat ∧ m.dx.toNat + m.dw.toNat ≤ cfg.fbW ∧ m.dy.toNat + m.dh.toNat ≤ cfg.fbH)

/-- Every cell of the window of `m` is a cell of the framebuffer, so that no access of R243 or R245 is out of bounds
(R72, R73); an empty window has no cell. -/
def windowInFb (cfg : Config) (m : DisplayMode) : Bool :=
  decide (m.dw.toNat = 0 ∨ m.dh.toNat = 0 ∨
    (m.dx.toNat + m.dw.toNat ≤ cfg.fbW ∧ m.dy.toNat + m.dh.toNat ≤ cfg.fbH))

end Sys2Proof.Machine
end

