-- ==== Sys2Proof/Machine/Ops.lean ====
section
/-! DEFINITION. The named operations over the state: framebuffer access (R72, R73), events (R10, R43), `POS` (R31),
raising a fault (R270), the environment's draw (R140), the host's moves (R247, R82). -/

namespace Sys2Proof.Machine

/-! ### The framebuffer's cells -/

/-- Indexes strictly rising, all at least `lo`, and no listed cell equal to the background. -/
def Memory.wfFrom (bg : Cell) (lo : Nat) : Memory → Bool
  | [] => true
  | (k, v) :: m => decide (lo ≤ k ∧ v ≠ bg) && Memory.wfFrom bg (k + 1) m

/-- The canonical form of the cell list. -/
def Memory.wf (bg : Cell) (m : Memory) : Bool := Memory.wfFrom bg 0 m

/-- Every listed index is below `size`. -/
def Memory.below (size : Nat) (m : Memory) : Bool := m.all (fun c => decide (c.1 < size))

/-- The cell at an index; an unlisted one reads as the background (log 9). -/
def Memory.read (bg : Cell) : Memory → Nat → Cell
  | [], _ => bg
  | (k, v) :: m, a => if a = k then v else if a < k then bg else Memory.read bg m a

/-- Replaces the cell at an index and keeps the canonical form: writing the background removes the entry. -/
def Memory.write (bg : Cell) : Memory → Nat → Cell → Memory
  | [], a, v => if v = bg then [] else [(a, v)]
  | (k, w) :: m, a, v =>
    if a < k then (if v = bg then (k, w) :: m else (a, v) :: (k, w) :: m)
    else if a = k then (if v = bg then m else (a, v) :: m)
    else (k, w) :: Memory.write bg m a v

/-- The linear index of cell (x, y): `y * FB_W + x` (R71). -/
def cellIndex (cfg : Config) (x y : Nat) : Nat := y * cfg.fbW + x

/-- `FbWrite(x, y, v)` (R72). Its callers keep (x, y) inside the framebuffer. -/
def fbWrite (cfg : Config) (fb : Memory) (x y : Nat) (v : Cell) : Memory :=
  Memory.write cfg.background fb (cellIndex cfg x y) v

/-- `FbRead(x, y)` (R73). Its callers keep (x, y) inside the framebuffer. -/
def fbRead (cfg : Config) (fb : Memory) (x y : Nat) : Cell :=
  Memory.read cfg.background fb (cellIndex cfg x y)

/-- A sequence of writes, in order. -/
def fbWriteAll (cfg : Config) (fb : Memory) (ws : List ((Nat × Nat) × Cell)) : Memory :=
  ws.foldl (fun m w => fbWrite cfg m w.1.1 w.1.2 w.2) fb

/-- The cells of the window of a display mode, row by row (R243, R245). -/
def windowCells (m : DisplayMode) : List (Nat × Nat) :=
  (List.range m.dh.toNat).flatMap (fun j =>
    (List.range m.dw.toNat).map (fun i => (m.dx.toNat + i, m.dy.toNat + j)))

/-- Every cell at `BACKGROUND` (R50): nothing is listed. -/
def fbBlank : Memory := []

/-! ### Registers, events, position -/

/-- `emit(e)`: appends to `OUT` (R10, R43). -/
def State.emit (e : Event) (s : State) : State := { s with out := s.out ++ [e] }

/-- `POS <- POS + n` (R31). -/
def State.advance (n : Nat) (s : State) : State := { s with pos := s.pos + n }

/-- `POS <- POS + len` at the end of a command (R31, R103). -/
def State.complete (i : Instr) (s : State) : State := s.advance (packetLen i)

/-- `raise Fault(code)` (R270): latches the code, the header word and `POS` if nothing is latched yet; nothing else
changes and `POS` does not advance. This is the block's one exception entry; there is no return (R280). -/
def State.raiseFault (v : Violation) (w : Word) (s : State) : State :=
  if s.fault.code = 0#3 then { s with fault := ⟨v.code, w, s.pos⟩ } else s

/-- What every command does first (R248, R278): where the legality table names a fault, raise it; else execute. -/
def guarded (i : Instr) (s : State) (body : State → Host.Outcome State Fault Refusal) :
    Host.Outcome State Fault Refusal :=
  match legality s.cfg.strictSetters i s.lifecycle with
  | some v => .next (s.raiseFault v (headerWord i))
  | none => body s

/-! ### The environment's draw -/

/-- `draw OPEN_OK` (R140): the next answer given beforehand, or else the free value of this draw (log 4). -/
def State.openOk (s : State) : Bool :=
  match s.openAnswers with
  | a :: _ => a
  | [] => Config.freeOpenOk s.openDraws

/-- The draw is taken: the answer is used up and the next draw is another one. -/
def State.takeDraw (s : State) : State :=
  { s with openAnswers := s.openAnswers.tail, openDraws := s.openDraws + 1 }

/-! ### The host's moves -/

/-- The frame-release port (R247): `PRESENT_HELD <- 0`, nothing else. -/
def State.releaseFrame (s : State) : State := { s with presentHeld := false }

/-- The host's producer sends one more word of the stream (R82, R112). -/
def State.sendWord (w : Word) (s : State) : State := { s with stream := s.stream ++ [w] }

end Sys2Proof.Machine
end

