-- ==== Sys2Proof/Machine/DrawState.lean ====
section
/-! DEFINITION. The draw-state setters (42_draw_state.md): SET_DRAW_OFFSET, SET_DRAW_AREA, SET_DISPLAY_MODE. -/

namespace Sys2Proof.Machine

/-- SET_DRAW_OFFSET (R170). -/
def execSetDrawOffset (x y : Half) (s : State) : Host.Outcome State Fault Refusal :=
  guarded (.setDrawOffset x y) s fun s =>
    .next (State.complete (.setDrawOffset x y) { s with drawOffset := ⟨x, y⟩ })

/-- SET_DRAW_AREA (R171). -/
def execSetDrawArea (x y w h : Half) (s : State) : Host.Outcome State Fault Refusal :=
  guarded (.setDrawArea x y w h) s fun s =>
    .next (State.complete (.setDrawArea x y w h) { s with drawArea := ⟨x, y, w, h⟩ })

/-- SET_DISPLAY_MODE (R172): after the legality table, the range check (R173, R278); no cell changes (R76). -/
def execSetDisplayMode (x y w h : Half) (d24 : Bool) (s : State) : Host.Outcome State Fault Refusal :=
  guarded (.setDisplayMode x y w h d24) s fun s =>
    if modeInRange s.cfg ⟨x, y, w, h, d24⟩ then
      .next (State.complete (.setDisplayMode x y w h d24) { s with displayMode := ⟨x, y, w, h, d24⟩ })
    else .next (s.raiseFault .displayModeRange (headerWord (.setDisplayMode x y w h d24)))

end Sys2Proof.Machine
end

