-- ==== Sys2Proof/Machine/FrameLifecycle.lean ====
section
/-! DEFINITION. The frame lifecycle controller's commands (44_frame_lifecycle.md): PREPARE_FRAME with its hold and FINALIZE_FRAME
with its snapshot. -/

namespace Sys2Proof.Machine

/-- Entering a frame (R241): no register is reset. -/
def State.enterFrame (s : State) : State := { s with lifecycle := .inFrame }

/-- Leaving a frame (R244): the snapshot becomes `PRESENT`. -/
def State.endFrame (f : Frame) (s : State) : State := { s with present := some f, lifecycle := .idle }

/-- The display window set to `BACKGROUND` (R243). -/
def State.clearWindow (s : State) : State :=
  { s with fb := fbWriteAll s.cfg s.fb ((windowCells s.displayMode).map (fun c => (c, s.cfg.background))) }

/-- PREPARE_FRAME (R241): while a frame is held it has no step, so the state stays as it is (R242, log 2); else it enters
`InFrame` and, with `CLEAR_ON_PREPARE`, clears the window (R243). -/
def execPrepareFrame (s : State) : Host.Outcome State Fault Refusal :=
  guarded .prepareFrame s fun s =>
    if s.presentHeld then .next s
    else if s.cfg.clearOnPrepare then
      if windowInFb s.cfg s.displayMode then
        .next (State.complete .prepareFrame (State.clearWindow s.enterFrame))
      else .fault .fbOutOfBounds
    else .next (State.complete .prepareFrame s.enterFrame)

/-- A presented pixel: the whole cell at 24 bits, bits 15..0 at 16 bits (R245). -/
def presentedPixel (d24 : Bool) (c : Cell) : Cell := if d24 then c else c &&& 0x00FFFF

/-- `snapshot()` (R245). -/
def snapshot (s : State) : Frame where
  w := s.displayMode.dw
  h := s.displayMode.dh
  d24 := s.displayMode.d24
  pix :=
    (List.range s.displayMode.dh.toNat).map (fun j =>
      (List.range s.displayMode.dw.toNat).map (fun i =>
        presentedPixel s.displayMode.d24
          (fbRead s.cfg s.fb (s.displayMode.dx.toNat + i) (s.displayMode.dy.toNat + j))))

/-- The video sink's invocation (R246): only with `VIDEO_BOUND`. -/
def State.deliver (f : Frame) (s : State) : State :=
  if s.videoBound then State.emit (.videoRefresh f) { s with presentHeld := true } else s

/-- FINALIZE_FRAME (R244). -/
def execFinalizeFrame (s : State) : Host.Outcome State Fault Refusal :=
  guarded .finalizeFrame s fun s =>
    if windowInFb s.cfg s.displayMode then
      .next (State.complete .finalizeFrame
        (State.deliver (snapshot s) (State.endFrame (snapshot s) s)))
    else .fault .fbOutOfBounds

end Sys2Proof.Machine
end

