-- ==== Sys2Proof/Machine/Resource.lean ====
section
/-! DEFINITION. The resource commands and `display_timing_state`'s report (41_display_timing.md): OPEN, CLOSE, GET_SYSTEM_AV_INFO,
REFRESH_VARIABLES, REGISTER_ENV_CALLBACK, REGISTER_VIDEO_CALLBACK. -/

namespace Sys2Proof.Machine

/-- What a successful OPEN establishes (R50, R140). -/
def State.initialise (isPal : Bool) (s : State) : State :=
  { s with
    lifecycle := .idle
    isPal := isPal
    drawOffset := ⟨0, 0⟩
    drawArea := ⟨0, 0, 0, 0⟩
    displayMode := s.cfg.defaultDisplayMode
    fb := fbBlank
    present := none
    presentHeld := false }

/-- OPEN (R140, R141): the draw decides; the result is reported either way. -/
def execOpenCore (isPal : Bool) (s : State) : Host.Outcome State Fault Refusal :=
  guarded (.openCore isPal) s fun s =>
    .next (State.complete (.openCore isPal)
      (State.emit (.openResult s.openOk)
        (State.takeDraw (if s.openOk then s.initialise isPal else s))))

/-- What CLOSE releases (R142): the rest becomes unobservable and is kept (R46, log 11). -/
def State.shut (s : State) : State :=
  { s with lifecycle := .closed, present := none, presentHeld := false }

/-- CLOSE (R142). -/
def execCloseCore (s : State) : Host.Outcome State Fault Refusal :=
  guarded .closeCore s fun s => .next (State.complete .closeCore s.shut)

/-- `av_info()` (R144). -/
def avInfo (s : State) : AvInfo where
  baseWidth := s.displayMode.dw
  baseHeight := s.displayMode.dh
  maxWidth := BitVec.ofNat 16 s.cfg.fbW
  maxHeight := BitVec.ofNat 16 s.cfg.fbH
  aspectNum := s.cfg.aspectNum
  aspectDen := s.cfg.aspectDen
  fpsMhz := if s.isPal then s.cfg.fpsMhzPal else s.cfg.fpsMhzNtsc
  totalLines := if s.isPal then s.cfg.linesPal else s.cfg.linesNtsc
  isPal := s.isPal
  depth24bpp := s.displayMode.d24

/-- GET_SYSTEM_AV_INFO (R143). -/
def execGetSystemAvInfo (s : State) : Host.Outcome State Fault Refusal :=
  guarded .getSystemAvInfo s fun s => .next (State.complete .getSystemAvInfo (s.emit (.avInfo (avInfo s))))

/-- REFRESH_VARIABLES (R145): no toggle is supported, so only `POS` changes. -/
def execRefreshVariables (s : State) : Host.Outcome State Fault Refusal :=
  guarded .refreshVariables s fun s => .next (State.complete .refreshVariables s)

/-- REGISTER_ENV_CALLBACK (R146). -/
def execRegisterEnvCallback (s : State) : Host.Outcome State Fault Refusal :=
  guarded .registerEnvCallback s fun s => .next (State.complete .registerEnvCallback { s with envBound := true })

/-- REGISTER_VIDEO_CALLBACK (R147). -/
def execRegisterVideoCallback (s : State) : Host.Outcome State Fault Refusal :=
  guarded .registerVideoCallback s fun s => .next (State.complete .registerVideoCallback { s with videoBound := true })

end Sys2Proof.Machine
end

