-- ==== Sys2Proof/Machine/Operands.lean ====
section
/-! DEFINITION. How commands read their operands: signed positions (R104), color channels (R106), translated vertices
(R192). -/

namespace Sys2Proof.Machine

/-- A point of the framebuffer's plane, on exact integers (R9). -/
structure Point where
  x : Int
  y : Int
  deriving DecidableEq, Repr

/-- A translated vertex: `P_i` and `C_i` (R192). -/
structure ScreenVertex where
  p : Point
  c : Word
  deriving DecidableEq, Repr

/-- A color channel (R106). -/
inductive Channel where
  | r
  | g
  | b
  deriving DecidableEq, Repr

/-- A channel of a color word: R = W[23:16], G = W[15:8], B = W[7:0]; the byte above is ignored (R106). -/
def colorChannel (c : Word) : Channel → Nat
  | .r => (c.extractLsb' 16 8).toNat
  | .g => (c.extractLsb' 8 8).toNat
  | .b => (c.extractLsb' 0 8).toNat

/-- `sext_16` (R9, R104). -/
def signedHalf (h : Half) : Int := h.toInt

/-- `zext_16` (R9, R105). -/
def unsignedHalf (h : Half) : Nat := h.toNat

/-- Step 1, translation (R192): vertex plus draw offset, without wrap. -/
def translate (o : DrawOffset) (v : Vertex) : ScreenVertex :=
  ⟨⟨signedHalf v.x + signedHalf o.ox, signedHalf v.y + signedHalf o.oy⟩, v.c⟩

end Sys2Proof.Machine
end

