-- ==== Sys2Proof/Machine/Raster.lean ====
section
/-! DEFINITION. The rasterizer's units (43_rasterizer.md): clip and scan (R193, R194), edge functions and fill rule (R196
to R201), interpolation (R202), dither (R204, R205), clamp and pack (R206 to R208), and their composition as one pure
function (R210). -/

namespace Sys2Proof.Machine

/-! ### edge_function_unit -/

/-- The edge function `E(a, b, p)` (R196). -/
def edge (a b p : Point) : Int := (b.x - a.x) * (p.y - a.y) - (b.y - a.y) * (p.x - a.x)

/-- The top-left predicate of the directed edge from `a` to `b` (R200). -/
def topLeft (a b : Point) : Bool :=
  decide (b.y - a.y < 0 ∨ (b.y - a.y = 0 ∧ b.x - a.x > 0))

/-- Three translated vertices. -/
structure Tri where
  v0 : ScreenVertex
  v1 : ScreenVertex
  v2 : ScreenVertex
  deriving DecidableEq, Repr

/-- The signed area `A` (R197). -/
def area (t : Tri) : Int := edge t.v0.p t.v1.p t.v2.p

/-- Orientation normalisation (R198): vertices 1 and 2 exchange places, colors with them, when `A < 0`. -/
def normalise (t : Tri) : Tri := if area t < 0 then ⟨t.v0, t.v2, t.v1⟩ else t

/-- `w0` (R199). -/
def weight0 (t : Tri) (p : Point) : Int := edge t.v1.p t.v2.p p

/-- `w1` (R199). -/
def weight1 (t : Tri) (p : Point) : Int := edge t.v2.p t.v0.p p

/-- `w2` (R199). -/
def weight2 (t : Tri) (p : Point) : Int := edge t.v0.p t.v1.p p

/-- One edge's test of R201: inside, or on a top-left edge. -/
def edgeOwns (w : Int) (tl : Bool) : Bool := decide (w > 0) || (decide (w = 0) && tl)

/-- Step 4, coverage of a normalised triangle (R201). -/
def covered (t : Tri) (p : Point) : Bool :=
  edgeOwns (weight0 t p) (topLeft t.v1.p t.v2.p) &&
  edgeOwns (weight1 t p) (topLeft t.v2.p t.v0.p) &&
  edgeOwns (weight2 t p) (topLeft t.v0.p t.v1.p)

/-! ### clipping_and_offset_unit -/

/-- The clip region (R193): columns `cx0 .. cx1 - 1`, rows `cy0 .. cy1 - 1`. -/
structure Clip where
  cx0 : Int
  cx1 : Int
  cy0 : Int
  cy1 : Int
  deriving DecidableEq, Repr

/-- The draw area intersected with the framebuffer (R193), sums exact. -/
def clipRegion (cfg : Config) (a : DrawArea) : Clip where
  cx0 := unsignedHalf a.ax
  cx1 := min ((unsignedHalf a.ax : Int) + unsignedHalf a.aw) cfg.fbW
  cy0 := unsignedHalf a.ay
  cy1 := min ((unsignedHalf a.ay : Int) + unsignedHalf a.ah) cfg.fbH

/-- Inclusive bounds of a scan. -/
structure Box where
  xl : Int
  xh : Int
  yl : Int
  yh : Int
  deriving DecidableEq, Repr

/-- Step 3, the scan set's bounds (R194): the bounding box inside the clip region. -/
def scanBox (c : Clip) (t : Tri) : Box where
  xl := max (min t.v0.p.x (min t.v1.p.x t.v2.p.x)) c.cx0
  xh := min (max t.v0.p.x (max t.v1.p.x t.v2.p.x)) (c.cx1 - 1)
  yl := max (min t.v0.p.y (min t.v1.p.y t.v2.p.y)) c.cy0
  yh := min (max t.v0.p.y (max t.v1.p.y t.v2.p.y)) (c.cy1 - 1)

/-- The integers `lo .. hi`, none where `lo > hi`. -/
def intRange (lo hi : Int) : List Int := (List.range (hi - lo + 1).toNat).map (fun k : Nat => lo + (k : Int))

/-- The points of a box, row by row (R210). -/
def boxPoints (b : Box) : List Point :=
  (intRange b.yl b.yh).flatMap (fun y => (intRange b.xl b.xh).map (fun x => ⟨x, y⟩))

/-! ### dither_pattern_lut -/

/-- `DITHER_LUT[row][col]` (R44, R204). -/
def ditherLut : List (List Int) :=
  [[-4, 0, -3, 1],
   [2, -2, 3, -1],
   [-3, 1, -4, 0],
   [3, -1, 2, -2]]

/-- The offset at a pixel: row `y mod 4`, column `x mod 4` (R204, R205). -/
def ditherAt (p : Point) : Int :=
  (ditherLut.getD (p.y % 4).toNat []).getD (p.x % 4).toNat 0

/-! ### color_interpolator -/

/-- Step 5, interpolation of one channel of a normalised triangle (R202); the division is floor division by `A > 0`. -/
def interpolate (t : Tri) (p : Point) (k : Channel) : Int :=
  (weight0 t p * colorChannel t.v0.c k + weight1 t p * colorChannel t.v1.c k
    + weight2 t p * colorChannel t.v2.c k) / area t

/-- Step 6, dither (R205): the same offset for every channel, at both depths. -/
def dithered (dither : Bool) (p : Point) (i : Int) : Int := if dither then i + ditherAt p else i

/-- The clamp to [0, 255] (R206, R9). -/
def clampChannel (v : Int) : Nat := (min 255 (max 0 v)).toNat

/-- Step 7, the 16-bit pack, zero-extended to a cell (R207). -/
def pack16 (r g b : Nat) : Cell :=
  BitVec.ofNat 24 (((r / 8) <<< 10) ||| ((g / 8) <<< 5) ||| (b / 8))

/-- Step 7, the 24-bit pack (R208). -/
def pack24 (r g b : Nat) : Cell := BitVec.ofNat 24 ((r <<< 16) ||| (g <<< 8) ||| b)

/-- The pixel format's pack (R207, R208). -/
def packPixel (d24 : Bool) (r g b : Nat) : Cell := if d24 then pack24 r g b else pack16 r g b

/-- One channel of a covered pixel after steps 5 and 6 and the clamp (R202, R205, R206). -/
def channelValue (t : Tri) (dither : Bool) (p : Point) (k : Channel) : Nat :=
  clampChannel (dithered dither p (interpolate t p k))

/-- The cell value of a covered pixel (R202 to R208). -/
def shade (t : Tri) (d24 dither : Bool) (p : Point) : Cell :=
  packPixel d24 (channelValue t dither p .r) (channelValue t dither p .g) (channelValue t dither p .b)

/-! ### The whole pipeline -/

/-- The translated triangle (R192). -/
def translatedTri (o : DrawOffset) (v0 v1 v2 : Vertex) : Tri := ⟨translate o v0, translate o v1, translate o v2⟩

/-- The covered pixels of a normalised triangle in a clip region, in scan order (R194, R201). -/
def coveredPoints (c : Clip) (t : Tri) : List Point := (boxPoints (scanBox c t)).filter (covered t)

/-- R210's pure function of the triangle and the registers: the cells written, in scan order, each with its value. A
degenerate triangle writes none (R197). -/
def trianglePixels (cfg : Config) (o : DrawOffset) (a : DrawArea) (d24 : Bool) (v0 v1 v2 : Vertex) (dither : Bool) :
    List (Point × Cell) :=
  if area (translatedTri o v0 v1 v2) = 0 then []
  else
    (coveredPoints (clipRegion cfg a) (normalise (translatedTri o v0 v1 v2))).map
      (fun p => (p, shade (normalise (translatedTri o v0 v1 v2)) d24 dither p))

/-- The pixels as framebuffer writes (R209); their coordinates are not negative, being in the clip region (R193). -/
def pixelWrites (ps : List (Point × Cell)) : List ((Nat × Nat) × Cell) :=
  ps.map (fun q => ((q.1.x.toNat, q.1.y.toNat), q.2))

end Sys2Proof.Machine
end

