-- ==== Sys2Proof/Machine/Triangle.lean ====
section
/-! DEFINITION. PUSH_TRIANGLE (R190, R210): the rasterizer's pure function applied to the framebuffer as one atomic
step (R85). -/

namespace Sys2Proof.Machine

/-- The framebuffer after the triangle's writes (R209, R210). -/
def State.draw (v0 v1 v2 : Vertex) (dither : Bool) (s : State) : State :=
  { s with
    fb := fbWriteAll s.cfg s.fb
      (pixelWrites (trianglePixels s.cfg s.drawOffset s.drawArea s.displayMode.d24 v0 v1 v2 dither)) }

/-- PUSH_TRIANGLE (R190). -/
def execPushTriangle (v0 v1 v2 : Vertex) (dither : Bool) (s : State) : Host.Outcome State Fault Refusal :=
  guarded (.pushTriangle v0 v1 v2 dither) s fun s =>
    .next (State.complete (.pushTriangle v0 v1 v2 dither) (s.draw v0 v1 v2 dither))

end Sys2Proof.Machine
end

