-- ==== Sys2Proof/Machine/Dispatch.lean ====
section
/-! DEFINITION. One arm per command: the meaning it calls. -/

namespace Sys2Proof.Machine

def exec (i : Instr) (s : State) : Host.Outcome State Fault Refusal :=
  match i with
  | .openCore isPal => Sys2Proof.Machine.execOpenCore isPal s
  | .closeCore => Sys2Proof.Machine.execCloseCore s
  | .getSystemAvInfo => Sys2Proof.Machine.execGetSystemAvInfo s
  | .refreshVariables => Sys2Proof.Machine.execRefreshVariables s
  | .registerEnvCallback => Sys2Proof.Machine.execRegisterEnvCallback s
  | .registerVideoCallback => Sys2Proof.Machine.execRegisterVideoCallback s
  | .prepareFrame => Sys2Proof.Machine.execPrepareFrame s
  | .finalizeFrame => Sys2Proof.Machine.execFinalizeFrame s
  | .setDrawOffset x y => Sys2Proof.Machine.execSetDrawOffset x y s
  | .setDrawArea x y w h => Sys2Proof.Machine.execSetDrawArea x y w h s
  | .setDisplayMode x y w h d24 => Sys2Proof.Machine.execSetDisplayMode x y w h d24 s
  | .pushTriangle v0 v1 v2 dither => Sys2Proof.Machine.execPushTriangle v0 v1 v2 dither s

end Sys2Proof.Machine
end

