-- ==== Sys2Proof/Machine/Processor.lean ====
section
/-! DEFINITION. The agents' steps (R285): the command processor, which decodes and executes one packet (R82, R114), and the
host's moves; and how an instruction is laid where the next step fetches it. -/

namespace Sys2Proof.Machine

/-- The command processor's turn. With a fault latched it has no step (R270); neither has it at the end of the stream
or at an incomplete packet (R112): then the state stays as it is (log 2, log 3). An illegal header raises ILLEGAL_COMMAND in
every lifecycle state (R272); a whole packet executes. -/
def coreStep (s : State) : Host.Outcome State Fault Refusal :=
  if s.fault.code = 0#3 then
    match decode s.stream s.pos with
    | .endOfStream => .next s
    | .incomplete => .next s
    | .illegal w0 => .next (s.raiseFault .illegalCommand w0)
    | .command i => exec i s
  else .next s

/-- One turn of the machine: the next agent of `turns` moves, the command processor where none is listed (log 1). -/
def turnStep (s : State) : Host.Outcome State Fault Refusal :=
  match s.turns with
  | [] => coreStep s
  | .core :: ts => coreStep { s with turns := ts }
  | .release :: ts => .next (State.releaseFrame { s with turns := ts })
  | .send w :: ts => .next (State.sendWord w { s with turns := ts })

/-- `ws` written over a stream from index `pos` on; a stream that is shorter is filled up with zero words. -/
def placeWords (stream : List Word) (pos : Nat) (ws : List Word) : List Word :=
  (stream ++ List.replicate (pos - stream.length) 0).take pos ++ ws ++ stream.drop (pos + ws.length)

/-- The machine about to execute the instruction of `tableWords nbits w`: its words stand at `POS`, it is the command
processor's turn, and no fault is latched (log 8). -/
def placeInstr (s : State) (nbits w : Nat) : State :=
  { s with stream := placeWords s.stream s.pos (tableWords nbits w), turns := [], fault := FaultLatch.none }

end Sys2Proof.Machine
end

