-- ==== Sys2Proof/Machine/Step.lean ====
section
/-! DEFINITION. The machine's step and the loading of one instruction. -/

namespace Sys2Proof.Machine

/-- One step: one agent's turn (R285). -/
def step : State → Host.Outcome State Fault Refusal := fun s => turnStep s

/-- `s` with an instruction's words where `step` fetches its next instruction (log 8). -/
def State.withFetchWord (s : State) (nbits w : Nat) : State := placeInstr s nbits w

end Sys2Proof.Machine
end

