-- ==== Sys2Proof/Machine/Asm.lean ====
section
/-! DEFINITION. The assembler syntax of R115: one line of text to one command (R116), and with the encoder to its
packet. Spaces separate words and are otherwise free; a field out of its range is no line of the syntax (log 16). -/

namespace Sys2Proof.Machine

/-- A token of a line. -/
inductive Tok where
  | word (cs : List Char)
  | comma
  | lpar
  | rpar
  | minus
  deriving DecidableEq, Repr

/-- The word collected so far (last character first), put before the tokens that follow it. -/
def flushWord (acc : List Char) (ts : List Tok) : List Tok :=
  match acc with
  | [] => ts
  | c :: cs => .word (c :: cs).reverse :: ts

/-- The tokens of a line; `;` starts a comment (R115). -/
def tokens : List Char → List Char → Option (List Tok)
  | [], acc => some (flushWord acc [])
  | c :: cs, acc =>
    if c = ';' then some (flushWord acc [])
    else if c = ' ' then (tokens cs []).map (flushWord acc)
    else if c = ',' then (tokens cs []).map (fun ts => flushWord acc (.comma :: ts))
    else if c = '(' then (tokens cs []).map (fun ts => flushWord acc (.lpar :: ts))
    else if c = ')' then (tokens cs []).map (fun ts => flushWord acc (.rpar :: ts))
    else if c = '-' then (tokens cs []).map (fun ts => flushWord acc (.minus :: ts))
    else if c.isAlphanum || c = '_' then tokens cs (c :: acc)
    else none

/-- A decimal digit's value. -/
def decDigit (c : Char) : Option Nat := if '0' ≤ c ∧ c ≤ '9' then some (c.toNat - 48) else none

/-- A hexadecimal digit's value, in either case. -/
def hexDigit (c : Char) : Option Nat :=
  if '0' ≤ c ∧ c ≤ '9' then some (c.toNat - 48)
  else if 'a' ≤ c ∧ c ≤ 'f' then some (c.toNat - 87)
  else if 'A' ≤ c ∧ c ≤ 'F' then some (c.toNat - 55)
  else none

/-- The number a list of digits stands for. -/
def digitsValue (base : Nat) (digit : Char → Option Nat) : List Char → Nat → Option Nat
  | [], n => some n
  | c :: cs, n =>
    match digit c with
    | none => none
    | some d => digitsValue base digit cs (n * base + d)

/-- A decimal number. -/
def decNumber (cs : List Char) : Option Nat :=
  match cs with
  | [] => none
  | _ :: _ => digitsValue 10 decDigit cs 0

/-- A number of R115: decimal or `0x` hexadecimal. -/
def number (cs : List Char) : Option Nat :=
  match cs with
  | '0' :: 'x' :: c :: rest => digitsValue 16 hexDigit (c :: rest) 0
  | _ => decNumber cs

/-- A field's number: a word, or `-` and a decimal word. -/
def numberTok (ts : List Tok) : Option (Int × List Tok) :=
  match ts with
  | .word cs :: rest => (number cs).map (fun n => ((n : Int), rest))
  | .minus :: .word cs :: rest => (decNumber cs).map (fun n => (-(n : Int), rest))
  | _ => none

/-- The numbers of a comma-separated list of `n` fields, and the tokens after it. -/
def numberList : Nat → List Tok → Option (List Int × List Tok)
  | 0, ts => some ([], ts)
  | 1, ts => (numberTok ts).map (fun q => ([q.1], q.2))
  | n + 2, ts =>
    match numberTok ts with
    | some (v, .comma :: rest) => (numberList (n + 1) rest).map (fun q => (v :: q.1, q.2))
    | _ => none

/-- A signed 16-bit field (R104). -/
def signedField (v : Int) : Option Half := if -32768 ≤ v ∧ v ≤ 32767 then some (BitVec.ofInt 16 v) else none

/-- An unsigned 16-bit field (R105). -/
def unsignedField (v : Int) : Option Half := if 0 ≤ v ∧ v ≤ 65535 then some (BitVec.ofInt 16 v) else none

/-- A color field (R106). -/
def colorField (v : Int) : Option Word := if 0 ≤ v ∧ v ≤ 4294967295 then some (BitVec.ofInt 32 v) else none

/-- A vertex `(x, y, c)` (R115). -/
def vertexTok (ts : List Tok) : Option (Vertex × List Tok) :=
  match ts with
  | .lpar :: rest =>
    match numberList 3 rest with
    | some ([x, y, c], .rpar :: rest') =>
      match signedField x, signedField y, colorField c with
      | some x', some y', some c' => some (⟨x', y', c'⟩, rest')
      | _, _, _ => none
    | _ => none
  | _ => none

/-- A vertex and the comma after it. -/
def vertexComma (ts : List Tok) : Option (Vertex × List Tok) :=
  match vertexTok ts with
  | some (v, .comma :: rest) => some (v, rest)
  | _ => none

/-- PUSH_TRIANGLE's operands: three vertices and the optional word `dither` (R115). -/
def triangleOperands (ts : List Tok) : Option Instr :=
  match vertexComma ts with
  | none => none
  | some (v0, ts1) =>
    match vertexComma ts1 with
    | none => none
    | some (v1, ts2) =>
      match vertexTok ts2 with
      | some (v2, []) => some (.pushTriangle v0 v1 v2 false)
      | some (v2, [.comma, .word cs]) => if cs = "dither".toList then some (.pushTriangle v0 v1 v2 true) else none
      | _ => none

/-- SET_DRAW_OFFSET's operands (R115). -/
def offsetOperands (ts : List Tok) : Option Instr :=
  match numberList 2 ts with
  | some ([x, y], []) =>
    match signedField x, signedField y with
    | some x', some y' => some (.setDrawOffset x' y')
    | _, _ => none
  | _ => none

/-- SET_DRAW_AREA's operands (R115). -/
def areaOperands (ts : List Tok) : Option Instr :=
  match numberList 4 ts with
  | some ([x, y, w, h], []) =>
    match unsignedField x, unsignedField y, unsignedField w, unsignedField h with
    | some x', some y', some w', some h' => some (.setDrawArea x' y' w' h')
    | _, _, _, _ => none
  | _ => none

/-- The depth word `16` or `24` (R115). -/
def depthField (v : Int) : Option Bool := if v = 16 then some false else if v = 24 then some true else none

/-- SET_DISPLAY_MODE's operands (R115). -/
def modeOperands (ts : List Tok) : Option Instr :=
  match numberList 5 ts with
  | some ([x, y, w, h, d], []) =>
    match unsignedField x, unsignedField y, unsignedField w, unsignedField h, depthField d with
    | some x', some y', some w', some h', some d' => some (.setDisplayMode x' y' w' h' d')
    | _, _, _, _, _ => none
  | _ => none

/-- OPEN's operand (R115). -/
def regionOperand (ts : List Tok) : Option Instr :=
  match ts with
  | [.word cs] =>
    if cs = "ntsc".toList then some (.openCore false)
    else if cs = "pal".toList then some (.openCore true)
    else none
  | _ => none

/-- A command without operands. -/
def bare (i : Instr) (ts : List Tok) : Option Instr :=
  match ts with
  | [] => some i
  | _ :: _ => none

/-- A line's command from its mnemonic and the tokens after it (R115). -/
def lineCommand (m : List Char) (ts : List Tok) : Option Instr :=
  if m = "OPEN".toList then regionOperand ts
  else if m = "CLOSE".toList then bare .closeCore ts
  else if m = "GET_SYSTEM_AV_INFO".toList then bare .getSystemAvInfo ts
  else if m = "REFRESH_VARIABLES".toList then bare .refreshVariables ts
  else if m = "REGISTER_ENV_CALLBACK".toList then bare .registerEnvCallback ts
  else if m = "REGISTER_VIDEO_CALLBACK".toList then bare .registerVideoCallback ts
  else if m = "PREPARE_FRAME".toList then bare .prepareFrame ts
  else if m = "FINALIZE_FRAME".toList then bare .finalizeFrame ts
  else if m = "SET_DRAW_OFFSET".toList then offsetOperands ts
  else if m = "SET_DRAW_AREA".toList then areaOperands ts
  else if m = "SET_DISPLAY_MODE".toList then modeOperands ts
  else if m = "PUSH_TRIANGLE".toList then triangleOperands ts
  else none

/-- The command a line of the syntax stands for (R115, R116). -/
def assembleLine (line : String) : Option Instr :=
  match tokens line.toList [] with
  | some (.word m :: ts) => lineCommand m ts
  | _ => none

/-- The packet a line assembles to (R116). -/
def assemblePacket (line : String) : Option (List Word) := (assembleLine line).map encode

end Sys2Proof.Machine
end

