-- ==== Sys2Proof/Machine/Output.lean ====
section
/-! DEFINITION. What the host reads: the word encoding of events (R113) and the little-endian byte image (R77). -/

namespace Sys2Proof.Machine

/-- The word of a presented pixel: its value zero-extended to 32 bits (R113). -/
def pixelWord (c : Cell) : Word := c.setWidth 32

/-- The words of an `AvInfo` event, A0 to A4 (R113). -/
def avInfoWords (r : AvInfo) : List Word :=
  [pairWord r.baseWidth r.baseHeight,
   pairWord r.maxWidth r.maxHeight,
   pairWord r.aspectNum r.aspectDen,
   r.fpsMhz,
   pairWord (BitVec.ofNat 16 (2 * r.isPal.toNat + r.depth24bpp.toNat)) r.totalLines]

/-- The words of a `VideoRefresh` event: V0, V1, then the pixels row by row (R113). -/
def frameWords (f : Frame) : List Word :=
  pairWord f.w f.h :: BitVec.ofNat 32 f.d24.toNat :: f.pix.flatten.map pixelWord

/-- The word encoding of an event (R113). -/
def eventWords : Event → List Word
  | .openResult ok => [BitVec.ofNat 32 ok.toNat]
  | .avInfo r => avInfoWords r
  | .videoRefresh f => frameWords f

/-- The `n` low bytes of a number, least significant first (R77). -/
def bytesLE : Nat → Nat → List Byte
  | 0, _ => []
  | n + 1, v => BitVec.ofNat 8 v :: bytesLE n (v / 256)

/-- A command word as it is sent: 4 bytes, least significant first (R77). -/
def wordBytes (w : Word) : List Byte := bytesLE 4 w.toNat

/-- A presented pixel's bytes: 2 at 16 bits, 4 (`B, G, R, 0`) at 24 bits (R77). -/
def pixelBytes (d24 : Bool) (c : Cell) : List Byte := bytesLE (if d24 then 4 else 2) c.toNat

/-- A presented frame's byte image: rows top to bottom, each left to right, no padding (R77). -/
def frameBytes (f : Frame) : List Byte := f.pix.flatten.flatMap (pixelBytes f.d24)

/-- The command words of a byte stream (R77); a last word cut short has not arrived. -/
def wordsOfBytes : List Byte → List Word
  | b0 :: b1 :: b2 :: b3 :: rest => 
    BitVec.ofNat 32 (b0.toNat + 2 ^ 8 * b1.toNat + 2 ^ 16 * b2.toNat + 2 ^ 24 * b3.toNat) :: wordsOfBytes rest
  | _ => []

end Sys2Proof.Machine
end

