-- ==== Sys2Proof/Safety.lean ====
section
/-! DEFINITION. The terms claims are stated in: legal configurations, the invariants of the spec (R249 and what it rests
on), the end of a run (R309), what cannot be observed (R46), and runs from power-up. -/

namespace Sys2Proof

/-- A legal configuration: the ranges of R6, and a default display mode that is itself a legal one (R37, log 13). -/
abbrev Config.wf (c : Config) : Prop :=
  1 ≤ c.fbW ∧ c.fbW ≤ 65535 ∧ 1 ≤ c.fbH ∧ c.fbH ≤ 65535 ∧ Machine.modeInRange c c.defaultDisplayMode = true

end Sys2Proof

namespace Sys2Proof.Machine

/-! ### Frames -/

/-- A frame has at least one column and one row, as many rows and columns as it says, and 16-bit pixels at 16 bits
(R39, R245, R249). -/
abbrev Frame.wf (f : Frame) : Prop :=
  1 ≤ f.w.toNat ∧ 1 ≤ f.h.toNat ∧ f.pix.length = f.h.toNat ∧
    (∀ row ∈ f.pix, row.length = f.w.toNat) ∧
    (f.d24 = false → ∀ row ∈ f.pix, ∀ c ∈ row, c.toNat < 2 ^ 16)

/-! ### Invariants -/

/-- The invariants of R249, with what they rest on: a legal configuration and display mode (R37), nothing presented while
Closed (R142, R290), well-formed frames in `PRESENT` and `OUT`. -/
structure State.LifecycleInv (s : State) : Prop where
  cfg_wf : s.cfg.wf
  mode_legal : modeInRange s.cfg s.displayMode = true
  held_bound : s.presentHeld = true → s.videoBound = true
  held_idle : s.presentHeld = true → s.lifecycle = .idle
  held_present : s.presentHeld = true → s.present ≠ none
  inFrame_free : s.lifecycle = .inFrame → s.presentHeld = false
  closed_none : s.lifecycle = .closed → s.present = none
  present_wf : ∀ f, s.present = some f → f.wf
  out_wf : ∀ f, Event.videoRefresh f ∈ s.out → f.wf

/-- The framebuffer's cells are in canonical form and inside `FB_W x FB_H` (R70, R71). -/
abbrev State.FbInv (s : State) : Prop :=
  Memory.wf s.cfg.background s.fb = true ∧ Memory.below (s.cfg.fbW * s.cfg.fbH) s.fb = true

/-- `FAULT.CODE` is never 7 (R33, R271), an unlatched `FAULT` is all zero (R33, R49), and a latched one names the command at
`POS` (R270, R279). -/
abbrev State.FaultInv (s : State) : Prop :=
  s.fault.code ≠ 7#3 ∧ (s.fault.code = 0#3 → s.fault = FaultLatch.none) ∧ (s.fault.code ≠ 0#3 → s.fault.pos = s.pos)

/-- `POS` stays inside the stream (R31, R112). -/
abbrev State.PosInv (s : State) : Prop := s.pos ≤ s.stream.length

/-! ### Turns and the end of a run -/

/-- The command processor's turn (R285, log 1). -/
abbrev State.CoreTurn (s : State) : Prop := s.turns = [] ∨ s.turns.head? = some Turn.core

/-- The turn is taken. -/
def State.tookTurn (s : State) : State := { s with turns := s.turns.tail }

/-- PREPARE_FRAME holds at the head of the stream (R242). -/
abbrev State.Held (s : State) : Prop :=
  s.fault.code = 0#3 ∧ decode s.stream s.pos = .command .prepareFrame ∧ s.lifecycle = .idle ∧ s.presentHeld = true

/-- An incomplete packet waits at the head of the stream (R112). -/
abbrev State.Waiting (s : State) : Prop := s.fault.code = 0#3 ∧ decode s.stream s.pos = .incomplete

/-- The words the producer still has to send. -/
def State.pendingWords (s : State) : List Word :=
  s.turns.filterMap (fun t => match t with | .send w => some w | .core => none | .release => none)

/-- The run has ended (R309): no fault, and every word of the whole stream executed. -/
abbrev State.Final (s : State) : Prop := s.fault.code = 0#3 ∧ s.pos = s.stream.length ∧ s.pendingWords = []

/-- No agent but the command processor has a turn left (R285, log 1). -/
abbrev State.HostDone (s : State) : Prop := ∀ t ∈ s.turns, t = Turn.core

/-- The run is stuck (R309): short of the stream's end, and no agent can step. The command processor cannot, since its packet
holds or waits; the host cannot, since every turn left, if any is, is the command processor's. -/
abbrev State.Stuck (s : State) : Prop := s.HostDone ∧ (s.Held ∨ s.Waiting)

/-- A safe run meets states without a latched fault only (R306). -/
abbrev State.Safe (s : State) : Prop := s.fault.code = 0#3

/-- What a run shows (R309): `OUT`, `PRESENT`, `PRESENT_HELD`, `LIFECYCLE`, the registers, `POS` among them, and `FB`. -/
structure Observation where
  pos : Nat
  out : List Event
  present : Option Frame
  presentHeld : Bool
  lifecycle : Lifecycle
  isPal : Bool
  drawOffset : DrawOffset
  drawArea : DrawArea
  displayMode : DisplayMode
  envBound : Bool
  videoBound : Bool
  fault : FaultLatch
  fb : Memory
  deriving DecidableEq, Repr

/-- The observation of a state (R309). -/
def State.observe (s : State) : Observation :=
  ⟨s.pos, s.out, s.present, s.presentHeld, s.lifecycle, s.isPal, s.drawOffset, s.drawArea, s.displayMode, s.envBound,
    s.videoBound, s.fault, s.fb⟩

/-- What an outcome's next state becomes under a function. -/
def mapNext (f : State → State) : Host.Outcome State Fault Refusal → Host.Outcome State Fault Refusal
  | .next s => .next (f s)
  | .fault r => .fault r
  | .refused r => .refused r

/-- What R46 hides while Closed, replaced by fixed values: two states with equal images differ in nothing observable. -/
def State.hideClosed (s : State) : State :=
  match s.lifecycle with
  | .closed =>
    { s with isPal := false, drawOffset := ⟨0, 0⟩, drawArea := ⟨0, 0, 0, 0⟩, displayMode := ⟨0, 0, 0, 0, false⟩, fb := [] }
  | .idle => s
  | .inFrame => s

/-- The framebuffer left out of account. -/
def State.hideFb (s : State) : State := { s with fb := [] }

/-! ### Runs from power-up -/

/-- The power-up state with a configuration, the host's stream and turns, and the environment's answers (R300, R309). -/
def State.boot (cfg : Config) (stream : List Word) (turns : List Turn) (answers : List Bool) : State :=
  { State.reset with
    cfg := cfg
    displayMode := cfg.defaultDisplayMode
    stream := stream
    turns := turns
    openAnswers := answers }

end Sys2Proof.Machine
end

