-- ==== Sys2Proof/Certificates/Slice0/Obligations.lean ====
section
/-! DEFINITION. The statements for the provers, from the numbered rules of spec/. -/

open Sys2Proof Sys2Proof.Machine

/-! ### Encoding (30_encoding.md) -/

/-- Decoding the packet of a command, wherever it stands in a stream, gives the command (R101 to R107, R114). -/
def Obligations.DecodeOfEncode : Prop :=
  ∀ (i : Instr) (pre rest : List Word), decode (pre ++ encode i ++ rest) pre.length = .command i

/-- The words a command was decoded from are its packet (R100, R103, R114). -/
def Obligations.EncodeOfDecode : Prop :=
  ∀ (stream : List Word) (pos : Nat) (i : Instr), decode stream pos = .command i →
    (stream.drop pos).take (packetLen i) = encode i

/-- The decoder refuses exactly the headers that the opcode map calls illegal, waits exactly where argument words are
missing, and otherwise reads one whole packet (R108, R109, R111, R112). -/
def Obligations.DecoderVerdicts : Prop :=
  ∀ (w0 : Word) (args : List Word),
    (headerRow w0 = none → decodeWords (w0 :: args) = .illegal w0) ∧
    (∀ r, headerRow w0 = some r → args.length + 1 < r.len → decodeWords (w0 :: args) = .incomplete) ∧
    (∀ r, headerRow w0 = some r → r.len ≤ args.length + 1 →
      ∃ i, decodeWords (w0 :: args) = .command i ∧ encode i = w0 :: args.take (r.len - 1))

/-- Packet lengths, command by command; the opcode alone decides them (R103). -/
def Obligations.PacketLengths : Prop :=
  (∀ i, opOf i ∈ [Op.openCore, .closeCore, .getSystemAvInfo, .refreshVariables, .registerEnvCallback,
      .registerVideoCallback, .prepareFrame, .finalizeFrame] → (encode i).length = 1) ∧
  (∀ i, opOf i = .setDrawOffset → (encode i).length = 2) ∧
  (∀ i, opOf i = .setDrawArea → (encode i).length = 3) ∧
  (∀ i, opOf i = .setDisplayMode → (encode i).length = 3) ∧
  (∀ i, opOf i = .pushTriangle → (encode i).length = 7) ∧
  (∀ i, (encode i).length = opLen (opOf i))

/-- Argument words: a position word carries two signed 16-bit numbers, x in the low half, for SET_DRAW_OFFSET and for each vertex
(R104); rectangle words carry two unsigned ones, the x or w in the low half, for SET_DRAW_AREA and SET_DISPLAY_MODE (R105). Every
bit pattern decodes; SET_DISPLAY_MODE's range check afterwards is SetDisplayModeResult's. -/
def Obligations.ArgumentWords : Prop :=
  (∀ w : Word,
    signedHalf (loHalf w) =
      (if w.toNat % 65536 < 32768 then ((w.toNat % 65536 : Nat) : Int) else (w.toNat % 65536 : Nat) - 65536) ∧
    signedHalf (hiHalf w) =
      (if w.toNat / 65536 < 32768 then ((w.toNat / 65536 : Nat) : Int) else (w.toNat / 65536 : Nat) - 65536)) ∧
  (∀ w : Word, decodeWords [0x10000000#32, w] = .command (.setDrawOffset (loHalf w) (hiHalf w))) ∧
  (∀ p0 c0 p1 c1 p2 c2 : Word, decodeWords [0x20000000#32, p0, c0, p1, c1, p2, c2] =
    .command (.pushTriangle ⟨loHalf p0, hiHalf p0, c0⟩ ⟨loHalf p1, hiHalf p1, c1⟩ ⟨loHalf p2, hiHalf p2, c2⟩ false)) ∧
  (∀ p0 c0 p1 c1 p2 c2 : Word, decodeWords [0x20000001#32, p0, c0, p1, c1, p2, c2] =
    .command (.pushTriangle ⟨loHalf p0, hiHalf p0, c0⟩ ⟨loHalf p1, hiHalf p1, c1⟩ ⟨loHalf p2, hiHalf p2, c2⟩ true)) ∧
  (signedHalf (loHalf 0x0005FFFE#32) = -2 ∧ signedHalf (hiHalf 0x0005FFFE#32) = 5) ∧
  (∀ w : Word, unsignedHalf (loHalf w) = w.toNat % 65536 ∧ unsignedHalf (hiHalf w) = w.toNat / 65536) ∧
  (∀ a b : Word, decodeWords [0x11000000#32, a, b] =
    .command (.setDrawArea (loHalf a) (hiHalf a) (loHalf b) (hiHalf b))) ∧
  (∀ a b : Word, decodeWords [0x12000000#32, a, b] =
    .command (.setDisplayMode (loHalf a) (hiHalf a) (loHalf b) (hiHalf b) false)) ∧
  (∀ a b : Word, decodeWords [0x12000001#32, a, b] =
    .command (.setDisplayMode (loHalf a) (hiHalf a) (loHalf b) (hiHalf b) true)) ∧
  (unsignedHalf (loHalf 0x00400040#32) = 64 ∧ unsignedHalf (hiHalf 0x00400040#32) = 64)

/-- Words of the spec's own vectors (V-E2, V-E9, V-E11, V-E12, V-E14, V-E16, V-E24, V-E25) read as the commands they stand
for, or as illegal. -/
def Obligations.DecodedVectors : Prop :=
  decodeWords [0x01000001#32] = .command (.openCore true) ∧
  decodeWords [0x09000000#32] = .command .finalizeFrame ∧
  decodeWords [0x10000000#32, 0x8000FFFF#32] = .command (.setDrawOffset (BitVec.ofInt 16 (-1)) (BitVec.ofInt 16 (-32768))) ∧
  decodeWords [0x11000000#32, 0x00000001#32, 0x00030006#32] = .command (.setDrawArea 1 0 6 3) ∧
  decodeWords [0x12000001#32, 0x000003E8#32, 0x02000018#32] = .command (.setDisplayMode 1000 0 24 512 true) ∧
  decodeWords [0x20000000#32, 0xFFFFFFFE#32, 0x00FF0000#32, 0xFFFF000A#32, 0x00FF0000#32, 0x000BFFFE#32, 0x00FF0000#32] =
    .command (.pushTriangle ⟨BitVec.ofInt 16 (-2), BitVec.ofInt 16 (-1), 0x00FF0000⟩
      ⟨10, BitVec.ofInt 16 (-1), 0x00FF0000⟩ ⟨BitVec.ofInt 16 (-2), 11, 0x00FF0000⟩ false) ∧
  decodeWords [0x02000001#32] = .illegal 0x02000001#32 ∧
  decodeWords [0x01000002#32] = .illegal 0x01000002#32

/-! ### Steps, faults and the end of a run (60_exceptions.md, 70_reset_and_hazards.md) -/

/-- On the command processor's turn, with no fault latched, a step executes the command at `POS` (R82, R111). -/
def Obligations.StepRunsDecodedCommand : Prop :=
  ∀ (s : State) (i : Instr), s.fault.code = 0#3 → s.CoreTurn → decode s.stream s.pos = .command i →
    step s = exec i s.tookTurn

/-- An illegal header latches ILLEGAL_COMMAND in every lifecycle state, and nothing else happens (R108, R109, R272). -/
def Obligations.IllegalHeaderFaults : Prop :=
  ∀ (s : State) (w0 : Word) (rest : List Word), s.fault.code = 0#3 → s.CoreTurn →
    s.stream.drop s.pos = w0 :: rest → headerRow w0 = none →
    step s = .next { s with turns := s.turns.tail, fault := ⟨1, w0, s.pos⟩ }

/-- A legal header whose argument words have not all arrived holds with no effect; where the host has no turn left the run is
stuck, not final. The host's sending of a word appends exactly that word to the stream, and once the missing words have been sent
the held packet executes (R112); the turns are the model's (log 1, log 2). -/
def Obligations.IncompletePacketHolds : Prop :=
  (∀ (s : State) (w0 : Word) (rest : List Word) (r : OpRow), s.fault.code = 0#3 → s.CoreTurn →
    s.stream.drop s.pos = w0 :: rest → headerRow w0 = some r → rest.length + 1 < r.len →
    step s = .next s.tookTurn ∧ ¬ s.Final ∧ (s.HostDone → s.Stuck)) ∧
  (∀ (s : State) (w : Word) (ts : List Turn), s.turns = .send w :: ts →
    step s = .next { s with stream := s.stream ++ [w], turns := ts }) ∧
  (∀ (k : Nat) (s : State) (ws : List Word) (i : Instr) (ts : List Turn), s.Waiting →
    s.turns = List.replicate k Turn.core ++ (ws.map Turn.send ++ Turn.core :: ts) →
    decode (s.stream ++ ws) s.pos = .command i →
    Host.Core.run core (k + ws.length) s = .next { s with stream := s.stream ++ ws, turns := Turn.core :: ts } ∧
    Host.Core.run core (k + ws.length + 1) s = exec i { s with stream := s.stream ++ ws, turns := ts })

/-- The faults of the legality table, each with nothing else changed: NOT_OPEN (code 2) in Closed for every command but OPEN and
REGISTER_* (R273); ALREADY_OPEN (3) for OPEN elsewhere (R274); NOT_IN_FRAME (4) in Idle for PUSH_TRIANGLE, FINALIZE_FRAME and, under
`STRICT_SETTERS`, the setters (R275); FRAME_IN_PROGRESS (5) in InFrame for PREPARE_FRAME, a held frame or not, and CLOSE (R276). -/
def Obligations.LegalityTableFaults : Prop :=
  ∀ (s : State) (i : Instr), s.fault.code = 0#3 →
    (s.lifecycle = .closed → opOf i ∉ [Op.openCore, .registerEnvCallback, .registerVideoCallback] →
      exec i s = .next { s with fault := ⟨2, headerWord i, s.pos⟩ }) ∧
    (s.lifecycle ≠ .closed → opOf i = .openCore →
      exec i s = .next { s with fault := ⟨3, headerWord i, s.pos⟩ }) ∧
    (s.lifecycle = .idle →
      (opOf i ∈ [Op.pushTriangle, .finalizeFrame] ∨
        (s.cfg.strictSetters = true ∧ opOf i ∈ [Op.setDrawOffset, .setDrawArea, .setDisplayMode])) →
      exec i s = .next { s with fault := ⟨4, headerWord i, s.pos⟩ }) ∧
    (s.lifecycle = .inFrame → opOf i ∈ [Op.prepareFrame, .closeCore] →
      exec i s = .next { s with fault := ⟨5, headerWord i, s.pos⟩ })

/-- Faults are precise: a step that latches a fault was the command processor's, changed nothing but `FAULT` (and the turn
taken), and recorded a code 1 to 6, the word at `POS` and `POS` (R279). -/
def Obligations.FaultsArePrecise : Prop :=
  ∀ s t : State, s.fault.code = 0#3 → step s = .next t → t.fault.code ≠ 0#3 →
    s.CoreTurn ∧ ∃ (w0 : Word) (rest : List Word), s.stream.drop s.pos = w0 :: rest ∧
      t = { s with turns := s.turns.tail, fault := ⟨t.fault.code, w0, s.pos⟩ } ∧
      1 ≤ t.fault.code.toNat ∧ t.fault.code.toNat ≤ 6

/-- A latched fault is never left: however many turns follow, the machine goes on to a next state and nothing changes but
`PRESENT_HELD`, which only a release clears, and the host's own stream and turns (R270, R280). -/
def Obligations.FaultIsNeverLeft : Prop :=
  ∀ (k : Nat) (s : State), s.fault.code ≠ 0#3 →
    ∃ t : State, Host.Core.run core k s = .next t ∧
      t = { s with turns := t.turns, stream := t.stream, presentHeld := t.presentHeld } ∧
      (t.presentHeld = true → s.presentHeld = true) ∧
      (Turn.release ∉ s.turns → t.presentHeld = s.presentHeld)

/-- `POS` advances by the packet's length when a command completes, and stays where it faults or holds (R31). -/
def Obligations.PosAdvancesByPacketLength : Prop :=
  ∀ (s t : State) (i : Instr), s.fault.code = 0#3 → exec i s = .next t →
    (t.pos = s.pos + (encode i).length ∧ t.fault = s.fault) ∨
    (t.pos = s.pos ∧ t.fault.code ≠ 0#3) ∨
    (t = s ∧ i = .prepareFrame ∧ s.presentHeld = true)

/-- With only the command processor left to move, a machine without a fault stays as it is (a turn of the model's list apart,
log 1) exactly where its run has ended or is stuck (R309). -/
def Obligations.OnlyFinalOrStuckStatesRest : Prop :=
  ∀ s : State, s.fault.code = 0#3 → s.HostDone → s.PosInv → modeInRange s.cfg s.displayMode = true →
    (step s = .next s.tookTurn ↔ s.Final ∨ s.Stuck)

/-- Power-up (R300): the values the spec gives. The stream, the turns and the environment's answers being empty is the
model's choice (log 1, log 4, log 8) and is not claimed here. -/
def Obligations.PowerUpValues : Prop :=
  State.reset.lifecycle = .closed ∧ State.reset.fault = ⟨0, 0, 0⟩ ∧ State.reset.present = none ∧
  State.reset.presentHeld = false ∧ State.reset.envBound = false ∧ State.reset.videoBound = false ∧
  State.reset.out = [] ∧ State.reset.pos = 0

/-! ### What commands write (10_state.md) -/

/-- The write sets of R45, command by command, and the release port's; a faulting or held command writes at most
`FAULT`. The configuration, the stream and the turns are written by no command. -/
def Obligations.WriteSets : Prop :=
  (∀ (i : Instr) (s t : State), exec i s = .next t →
    t.cfg = s.cfg ∧ t.stream = s.stream ∧ t.turns = s.turns ∧
    (t.lifecycle ≠ s.lifecycle → opOf i ∈ [Op.openCore, .closeCore, .prepareFrame, .finalizeFrame]) ∧
    (t.isPal ≠ s.isPal → opOf i = .openCore) ∧
    (t.drawOffset ≠ s.drawOffset → opOf i ∈ [Op.openCore, .setDrawOffset]) ∧
    (t.drawArea ≠ s.drawArea → opOf i ∈ [Op.openCore, .setDrawArea]) ∧
    (t.displayMode ≠ s.displayMode → opOf i ∈ [Op.openCore, .setDisplayMode]) ∧
    (t.fb ≠ s.fb → opOf i ∈ [Op.openCore, .pushTriangle] ∨ (i = .prepareFrame ∧ s.cfg.clearOnPrepare = true)) ∧
    (t.present ≠ s.present → opOf i ∈ [Op.openCore, .closeCore, .finalizeFrame]) ∧
    (t.presentHeld ≠ s.presentHeld →
      opOf i ∈ [Op.openCore, .closeCore] ∨ (i = .finalizeFrame ∧ s.videoBound = true)) ∧
    (t.envBound ≠ s.envBound → i = .registerEnvCallback) ∧
    (t.videoBound ≠ s.videoBound → i = .registerVideoCallback) ∧
    (t.out ≠ s.out → opOf i ∈ [Op.openCore, .getSystemAvInfo] ∨ (i = .finalizeFrame ∧ s.videoBound = true)) ∧
    (opOf i = .openCore → s.openOk = false → t = { s with
      out := t.out, pos := t.pos, fault := t.fault,
      openAnswers := t.openAnswers, openDraws := t.openDraws }) ∧
    (t.fault ≠ s.fault ∨ t.pos = s.pos → t = { s with fault := t.fault })) ∧
  (∀ s : State, s.turns.head? = some .release →
    step s = .next { s with presentHeld := false, turns := s.turns.tail })

/-- `OUT` is append-only, and a step appends at most one event (R43). -/
def Obligations.OutIsAppendOnly : Prop :=
  ∀ s t : State, step s = .next t → ∃ es : List Event, t.out = s.out ++ es ∧ es.length ≤ 1

/-- While Closed, `IS_PAL`, `DRAW_OFFSET`, `DRAW_AREA`, `DISPLAY_MODE` and `FB` cannot be observed: two states that differ in
nothing else while Closed have runs that differ in nothing else while Closed, and in nothing once open (R46). -/
def Obligations.ClosedRegistersUnobservable : Prop :=
  ∀ (k : Nat) (s t : State), s.hideClosed = t.hideClosed →
    mapNext State.hideClosed (Host.Core.run core k s) = mapNext State.hideClosed (Host.Core.run core k t)

/-! ### Framebuffer memory (20_memory.md) -/

/-- The framebuffer is read by FINALIZE_FRAME only: with other cells, every other command does the same to everything
but the cells, and which cells it writes, and with which values, is the same whatever the cells held: there is no blending
(R73, R209). -/
def Obligations.FramebufferReadByFinalizeOnly : Prop :=
  ∀ (i : Instr) (s : State), i ≠ .finalizeFrame →
    (∀ m : Memory, mapNext State.hideFb (exec i { s with fb := m }) = mapNext State.hideFb (exec i s)) ∧
    ∃ written : Nat → Nat → Option Cell, ∀ (m : Memory) (t : State), Memory.wf s.cfg.background m = true →
      exec i { s with fb := m } = .next t → ∀ x y : Nat, x < s.cfg.fbW → y < s.cfg.fbH →
        fbRead t.cfg t.fb x y = (written x y).getD (fbRead s.cfg m x y)

/-- Every step keeps the framebuffer's cells canonical and inside `FB_W x FB_H` (R70, R72). -/
def Obligations.FramebufferStaysCanonical : Prop :=
  ∀ s t : State, s.FbInv → step s = .next t → t.FbInv

/-- Last write wins: after two triangles, a cell has the second's value where the second covers it, else the first's
where the first does, else its own (R84). -/
def Obligations.LastWriteWins : Prop :=
  ∀ (s : State) (a0 a1 a2 b0 b1 b2 : Vertex) (da db : Bool), s.fault.code = 0#3 → s.lifecycle = .inFrame →
    Memory.wf s.cfg.background s.fb = true →
    ∃ t u : State, exec (.pushTriangle a0 a1 a2 da) s = .next t ∧ exec (.pushTriangle b0 b1 b2 db) t = .next u ∧
      ∀ x y : Nat, x < s.cfg.fbW → y < s.cfg.fbH →
        (∀ v, (⟨⟨x, y⟩, v⟩ : Point × Cell) ∈
            trianglePixels s.cfg s.drawOffset s.drawArea s.displayMode.d24 b0 b1 b2 db → fbRead u.cfg u.fb x y = v) ∧
        ((∀ v, (⟨⟨x, y⟩, v⟩ : Point × Cell) ∉
            trianglePixels s.cfg s.drawOffset s.drawArea s.displayMode.d24 b0 b1 b2 db) →
          fbRead u.cfg u.fb x y = fbRead t.cfg t.fb x y) ∧
        (∀ v, (⟨⟨x, y⟩, v⟩ : Point × Cell) ∈
            trianglePixels s.cfg s.drawOffset s.drawArea s.displayMode.d24 a0 a1 a2 da → fbRead t.cfg t.fb x y = v) ∧
        ((∀ v, (⟨⟨x, y⟩, v⟩ : Point × Cell) ∉
            trianglePixels s.cfg s.drawOffset s.drawArea s.displayMode.d24 a0 a1 a2 da) →
          fbRead t.cfg t.fb x y = fbRead s.cfg s.fb x y)

/-! ### Resource commands (41_display_timing.md) -/

/-- OPEN in Closed: where the draw says yes, the values of R50; where it says no, only `OUT` and `POS` change (R141); the draw
itself is used up. In Idle and InFrame it faults ALREADY_OPEN (R140). The draw `openOk` is the environment's answer or
a free value (log 4): the statement holds for both. -/
def Obligations.OpenResult : Prop :=
  (∀ p, encode (.openCore p) = [if p then 0x01000001#32 else 0x01000000#32]) ∧
  (∀ (s : State) (p : Bool), s.fault.code = 0#3 → s.lifecycle ≠ .closed →
    exec (.openCore p) s = .next { s with fault := ⟨3, if p then 0x01000001 else 0x01000000, s.pos⟩ }) ∧
  (∀ (s : State) (p : Bool), s.fault.code = 0#3 → s.lifecycle = .closed → s.openOk = false →
    exec (.openCore p) s = .next { s with
      out := s.out ++ [.openResult false], pos := s.pos + 1,
      openAnswers := s.openAnswers.tail, openDraws := s.openDraws + 1 }) ∧
  (∀ (s : State) (p : Bool), s.fault.code = 0#3 → s.lifecycle = .closed → s.openOk = true →
    ∃ t : State, exec (.openCore p) s = .next t ∧
      t = { s with
        lifecycle := .idle, isPal := p, drawOffset := ⟨0, 0⟩, drawArea := ⟨0, 0, 0, 0⟩,
        displayMode := s.cfg.defaultDisplayMode, fb := t.fb, present := none, presentHeld := false,
        out := s.out ++ [.openResult true], pos := s.pos + 1,
        openAnswers := s.openAnswers.tail, openDraws := s.openDraws + 1 } ∧
      ∀ x y : Nat, x < s.cfg.fbW → y < s.cfg.fbH → fbRead t.cfg t.fb x y = s.cfg.background)

/-- CLOSE: NOT_OPEN in Closed, FRAME_IN_PROGRESS in InFrame; in Idle it closes, withdraws the frame and emits nothing
(R142, R45). That `IS_PAL`, `DRAW_OFFSET`, `DRAW_AREA`, `DISPLAY_MODE` and `FB` keep their values, which R46 makes unobservable
and lets a model keep or change, is the model's choice (log 11). -/
def Obligations.CloseResult : Prop :=
  encode .closeCore = [0x02000000#32] ∧
  ∀ s : State, s.fault.code = 0#3 →
    (s.lifecycle = .closed → exec .closeCore s = .next { s with fault := ⟨2, 0x02000000, s.pos⟩ }) ∧
    (s.lifecycle = .inFrame → exec .closeCore s = .next { s with fault := ⟨5, 0x02000000, s.pos⟩ }) ∧
    (s.lifecycle = .idle → exec .closeCore s =
      .next { s with lifecycle := .closed, present := none, presentHeld := false, pos := s.pos + 1 })

/-- GET_SYSTEM_AV_INFO: NOT_OPEN in Closed; in Idle and InFrame it appends the record of R144 and writes nothing else but
`POS` (R143, R144). The record's two u16 maxima are the low 16 bits of `FB_W` and `FB_H`, which is the model's reading (log 20);
in a legal configuration they are `FB_W` and `FB_H`. -/
def Obligations.GetSystemAvInfoResult : Prop :=
  encode .getSystemAvInfo = [0x03000000#32] ∧
  ∀ s : State, s.fault.code = 0#3 →
    (s.lifecycle = .closed → exec .getSystemAvInfo s = .next { s with fault := ⟨2, 0x03000000, s.pos⟩ }) ∧
    (s.lifecycle ≠ .closed → exec .getSystemAvInfo s = .next { s with
      pos := s.pos + 1,
      out := s.out ++ [.avInfo {
        baseWidth := s.displayMode.dw, baseHeight := s.displayMode.dh,
        maxWidth := BitVec.ofNat 16 s.cfg.fbW, maxHeight := BitVec.ofNat 16 s.cfg.fbH,
        aspectNum := s.cfg.aspectNum, aspectDen := s.cfg.aspectDen,
        fpsMhz := if s.isPal then s.cfg.fpsMhzPal else s.cfg.fpsMhzNtsc,
        totalLines := if s.isPal then s.cfg.linesPal else s.cfg.linesNtsc,
        isPal := s.isPal, depth24bpp := s.displayMode.d24 }] }) ∧
    (s.cfg.wf → (BitVec.ofNat 16 s.cfg.fbW).toNat = s.cfg.fbW ∧ (BitVec.ofNat 16 s.cfg.fbH).toNat = s.cfg.fbH)

/-- The A/V record changes only with OPEN and SET_DISPLAY_MODE (R143: "must be stable between display-mode changes"; R34, R37,
R45). R143 also lists CLOSE, after which no query is answered until an OPEN; that CLOSE leaves the record as it was is the model's
choice (log 11). -/
def Obligations.AvInfoIsStable : Prop :=
  ∀ s t : State, step s = .next t →
    avInfo t = avInfo s ∨
    (∃ p, decode s.stream s.pos = .command (.openCore p)) ∨
    (∃ x y w h d, decode s.stream s.pos = .command (.setDisplayMode x y w h d))

/-- REFRESH_VARIABLES: NOT_OPEN in Closed; in Idle and InFrame only `POS` changes, bound or not (R145). -/
def Obligations.RefreshVariablesResult : Prop :=
  encode .refreshVariables = [0x04000000#32] ∧
  ∀ s : State, s.fault.code = 0#3 →
    (s.lifecycle = .closed → exec .refreshVariables s = .next { s with fault := ⟨2, 0x04000000, s.pos⟩ }) ∧
    (s.lifecycle ≠ .closed → exec .refreshVariables s = .next { s with pos := s.pos + 1 })

/-- REGISTER_ENV_CALLBACK and REGISTER_VIDEO_CALLBACK complete in every lifecycle state and set their own bit only, and no
command clears either bit, CLOSE and a second registration included (R146, R147). -/
def Obligations.RegisterCallbackResults : Prop :=
  encode .registerEnvCallback = [0x05000000#32] ∧ encode .registerVideoCallback = [0x06000000#32] ∧
  ∀ s : State, s.fault.code = 0#3 →
    exec .registerEnvCallback s = .next { s with envBound := true, pos := s.pos + 1 } ∧
    exec .registerVideoCallback s = .next { s with videoBound := true, pos := s.pos + 1 } ∧
    ∀ (i : Instr) (t : State), exec i s = .next t →
      (s.envBound = true → t.envBound = true) ∧ (s.videoBound = true → t.videoBound = true)

/-- `IS_PAL` is written by a successful OPEN only, with the packet's flag (R148). -/
def Obligations.IsPalWrittenByOpenOnly : Prop :=
  ∀ s t : State, step s = .next t → t.isPal ≠ s.isPal →
    ∃ p, decode s.stream s.pos = .command (.openCore p) ∧ s.lifecycle = .closed ∧ s.openOk = true ∧ t.isPal = p

/-! ### Setters (42_draw_state.md) -/

/-- SET_DRAW_OFFSET: its words, its faults, and its one register (R170). -/
def Obligations.SetDrawOffsetResult : Prop :=
  ∀ (s : State) (x y : Half), s.fault.code = 0#3 →
    encode (.setDrawOffset x y) = [0x10000000#32, pairWord x y] ∧
    (s.lifecycle = .closed → exec (.setDrawOffset x y) s = .next { s with fault := ⟨2, 0x10000000, s.pos⟩ }) ∧
    (s.lifecycle = .idle → s.cfg.strictSetters = true →
      exec (.setDrawOffset x y) s = .next { s with fault := ⟨4, 0x10000000, s.pos⟩ }) ∧
    (s.lifecycle = .inFrame ∨ (s.lifecycle = .idle ∧ s.cfg.strictSetters = false) →
      exec (.setDrawOffset x y) s = .next { s with drawOffset := ⟨x, y⟩, pos := s.pos + 2 })

/-- SET_DRAW_AREA: its words, its faults, and its one register, for every rectangle (R171). The register holds the rectangle
uncut; what of it is drawn to is PixelsStayInClipRegion's and PushTriangleResult's. -/
def Obligations.SetDrawAreaResult : Prop :=
  ∀ (s : State) (x y w h : Half), s.fault.code = 0#3 →
    encode (.setDrawArea x y w h) = [0x11000000#32, pairWord x y, pairWord w h] ∧
    (s.lifecycle = .closed → exec (.setDrawArea x y w h) s = .next { s with fault := ⟨2, 0x11000000, s.pos⟩ }) ∧
    (s.lifecycle = .idle → s.cfg.strictSetters = true →
      exec (.setDrawArea x y w h) s = .next { s with fault := ⟨4, 0x11000000, s.pos⟩ }) ∧
    (s.lifecycle = .inFrame ∨ (s.lifecycle = .idle ∧ s.cfg.strictSetters = false) →
      exec (.setDrawArea x y w h) s = .next { s with drawArea := ⟨x, y, w, h⟩, pos := s.pos + 3 })

/-- SET_DISPLAY_MODE: its words; its faults, legality first whatever the rectangle, then DISPLAY_MODE_RANGE (code 6) for an empty or
ill-fitting rectangle, which leaves `DISPLAY_MODE` as it was; and with a legal rectangle its one register: no cell changes
(R172, R173, R277, R76). -/
def Obligations.SetDisplayModeResult : Prop :=
  ∀ (s : State) (x y w h : Half) (d : Bool), s.fault.code = 0#3 →
    encode (.setDisplayMode x y w h d) = [if d then 0x12000001#32 else 0x12000000#32, pairWord x y, pairWord w h] ∧
    (s.lifecycle = .closed → exec (.setDisplayMode x y w h d) s =
      .next { s with fault := ⟨2, if d then 0x12000001 else 0x12000000, s.pos⟩ }) ∧
    (s.lifecycle = .idle → s.cfg.strictSetters = true → exec (.setDisplayMode x y w h d) s =
      .next { s with fault := ⟨4, if d then 0x12000001 else 0x12000000, s.pos⟩ }) ∧
    (s.lifecycle = .inFrame ∨ (s.lifecycle = .idle ∧ s.cfg.strictSetters = false) →
      ¬ (1 ≤ w.toNat ∧ 1 ≤ h.toNat ∧ x.toNat + w.toNat ≤ s.cfg.fbW ∧ y.toNat + h.toNat ≤ s.cfg.fbH) →
      exec (.setDisplayMode x y w h d) s =
        .next { s with fault := ⟨6, if d then 0x12000001 else 0x12000000, s.pos⟩ }) ∧
    (s.lifecycle = .inFrame ∨ (s.lifecycle = .idle ∧ s.cfg.strictSetters = false) →
      1 ≤ w.toNat ∧ 1 ≤ h.toNat ∧ x.toNat + w.toNat ≤ s.cfg.fbW ∧ y.toNat + h.toNat ≤ s.cfg.fbH →
      exec (.setDisplayMode x y w h d) s = .next { s with displayMode := ⟨x, y, w, h, d⟩, pos := s.pos + 3 })

/-! ### Rasterizer (43_rasterizer.md) -/

/-- PUSH_TRIANGLE completes in InFrame with `FB` and `POS` changed only, and a cell of the framebuffer afterwards holds the
shaded value exactly where the triangle is not degenerate, the cell is in the draw area and the fill rule covers it; every
other cell is as before. The bounding box of R194 plays no part (R190, R195, R209, R210). -/
def Obligations.PushTriangleResult : Prop :=
  ∀ (s : State) (v0 v1 v2 : Vertex) (d : Bool), s.fault.code = 0#3 → s.lifecycle = .inFrame →
    Memory.wf s.cfg.background s.fb = true →
    ∃ t : State, exec (.pushTriangle v0 v1 v2 d) s = .next t ∧
      t = { s with fb := t.fb, pos := s.pos + 7 } ∧
      ∀ x y : Nat, x < s.cfg.fbW → y < s.cfg.fbH →
        fbRead t.cfg t.fb x y =
          if area (translatedTri s.drawOffset v0 v1 v2) ≠ 0 ∧
              s.drawArea.ax.toNat ≤ x ∧ x < s.drawArea.ax.toNat + s.drawArea.aw.toNat ∧
              s.drawArea.ay.toNat ≤ y ∧ y < s.drawArea.ay.toNat + s.drawArea.ah.toNat ∧
              covered (normalise (translatedTri s.drawOffset v0 v1 v2)) ⟨x, y⟩ = true
          then shade (normalise (translatedTri s.drawOffset v0 v1 v2)) s.displayMode.d24 d ⟨x, y⟩
          else fbRead s.cfg s.fb x y

/-- PUSH_TRIANGLE's words and its two faults (R190). -/
def Obligations.PushTriangleEncodingAndFaults : Prop :=
  ∀ (s : State) (v0 v1 v2 : Vertex) (d : Bool), s.fault.code = 0#3 →
    encode (.pushTriangle v0 v1 v2 d) =
      [if d then 0x20000001#32 else 0x20000000#32,
        pairWord v0.x v0.y, v0.c, pairWord v1.x v1.y, v1.c, pairWord v2.x v2.y, v2.c] ∧
    (s.lifecycle = .closed → exec (.pushTriangle v0 v1 v2 d) s =
      .next { s with fault := ⟨2, if d then 0x20000001 else 0x20000000, s.pos⟩ }) ∧
    (s.lifecycle = .idle → exec (.pushTriangle v0 v1 v2 d) s =
      .next { s with fault := ⟨4, if d then 0x20000001 else 0x20000000, s.pos⟩ })

/-- A degenerate triangle, and any triangle under an empty clip region, writes no cell and completes (R197, R193,
R212 (a)). -/
def Obligations.NothingToDraw : Prop :=
  ∀ (s : State) (v0 v1 v2 : Vertex) (d : Bool), s.fault.code = 0#3 → s.lifecycle = .inFrame →
    (area (translatedTri s.drawOffset v0 v1 v2) = 0 ∨ s.drawArea.aw = 0 ∨ s.drawArea.ah = 0 ∨
      s.cfg.fbW ≤ s.drawArea.ax.toNat ∨ s.cfg.fbH ≤ s.drawArea.ay.toNat) →
    exec (.pushTriangle v0 v1 v2 d) s = .next { s with pos := s.pos + 7 }

/-- Edge functions, orientation, weights and the fill rule, in coordinates: the edge function (R196) and the signed area (R197);
normalisation swaps vertices 1 and 2 with their colors exactly where the area is negative, and leaves the area's magnitude (R198);
the three weights, which sum to the area and are each the area at its own vertex (R199); and a pixel is covered exactly where each
weight is positive, or zero on a left edge (`dy < 0`) or a top one (`dy = 0`, `dx > 0`) (R200, R201). -/
def Obligations.NormalisedWeights : Prop :=
  ∀ (t : Tri) (p : Point),
    (∀ a b q : Point, edge a b q = (b.x - a.x) * (q.y - a.y) - (b.y - a.y) * (q.x - a.x)) ∧
    area t = (t.v1.p.x - t.v0.p.x) * (t.v2.p.y - t.v0.p.y) - (t.v1.p.y - t.v0.p.y) * (t.v2.p.x - t.v0.p.x) ∧
    (weight0 t p = edge t.v1.p t.v2.p p ∧ weight1 t p = edge t.v2.p t.v0.p p ∧ weight2 t p = edge t.v0.p t.v1.p p) ∧
    (covered t p = true ↔
      (0 < weight0 t p ∨ (weight0 t p = 0 ∧
        (t.v2.p.y - t.v1.p.y < 0 ∨ (t.v2.p.y - t.v1.p.y = 0 ∧ 0 < t.v2.p.x - t.v1.p.x)))) ∧
      (0 < weight1 t p ∨ (weight1 t p = 0 ∧
        (t.v0.p.y - t.v2.p.y < 0 ∨ (t.v0.p.y - t.v2.p.y = 0 ∧ 0 < t.v0.p.x - t.v2.p.x)))) ∧
      (0 < weight2 t p ∨ (weight2 t p = 0 ∧
        (t.v1.p.y - t.v0.p.y < 0 ∨ (t.v1.p.y - t.v0.p.y = 0 ∧ 0 < t.v1.p.x - t.v0.p.x))))) ∧
    (area (normalise t) = |area t| ∧ (area t < 0 → normalise t = ⟨t.v0, t.v2, t.v1⟩) ∧
      (0 ≤ area t → normalise t = t)) ∧
    weight0 t p + weight1 t p + weight2 t p = area t ∧
    weight0 t t.v0.p = area t ∧ weight1 t t.v1.p = area t ∧ weight2 t t.v2.p = area t

/-- Interpolation: floor division of the weighted sum; on a covered pixel the result is between the least and the
greatest vertex channel, and at a vertex it is the vertex's own (R202). -/
def Obligations.InterpolationFloorsInRange : Prop :=
  ∀ (t : Tri) (p : Point) (k : Channel), 0 < area t →
    (area t * interpolate t p k ≤
        weight0 t p * colorChannel t.v0.c k + weight1 t p * colorChannel t.v1.c k + weight2 t p * colorChannel t.v2.c k ∧
      weight0 t p * colorChannel t.v0.c k + weight1 t p * colorChannel t.v1.c k + weight2 t p * colorChannel t.v2.c k <
        area t * (interpolate t p k + 1)) ∧
    (covered t p = true →
      (min (colorChannel t.v0.c k) (min (colorChannel t.v1.c k) (colorChannel t.v2.c k)) : Int) ≤ interpolate t p k ∧
      interpolate t p k ≤ (max (colorChannel t.v0.c k) (max (colorChannel t.v1.c k) (colorChannel t.v2.c k)) : Int) ∧
      0 ≤ interpolate t p k ∧ interpolate t p k ≤ 255) ∧
    interpolate t t.v0.p k = colorChannel t.v0.c k ∧
    interpolate t t.v1.p k = colorChannel t.v1.c k ∧
    interpolate t t.v2.p k = colorChannel t.v2.c k

/-- Translation and widths: a vertex is translated by exact addition of the offset, its color kept, translated coordinates fit
s17, edge functions at framebuffer pixels fit s36, interpolation numerators on covered
pixels are at most 255 A and fit u43 (R192, R203). -/
def Obligations.DatapathWidths : Prop :=
  ∀ (o : DrawOffset) (v0 v1 v2 : Vertex) (p : Point) (k : Channel),
    0 ≤ p.x → p.x ≤ 65534 → 0 ≤ p.y → p.y ≤ 65534 →
    (∀ v : Vertex, (translate o v).p.x = v.x.toInt + o.ox.toInt ∧ (translate o v).p.y = v.y.toInt + o.oy.toInt ∧
      (translate o v).c = v.c) ∧
    translatedTri o v0 v1 v2 = ⟨translate o v0, translate o v1, translate o v2⟩ ∧
    (∀ v : Vertex, -65536 ≤ (translate o v).p.x ∧ (translate o v).p.x ≤ 65534 ∧
      -65536 ≤ (translate o v).p.y ∧ (translate o v).p.y ≤ 65534) ∧
    ∀ t, t = normalise (translatedTri o v0 v1 v2) →
      |area t| < 2 ^ 35 ∧ |weight0 t p| < 2 ^ 35 ∧ |weight1 t p| < 2 ^ 35 ∧ |weight2 t p| < 2 ^ 35 ∧
      (covered t p = true →
        0 ≤ weight0 t p * colorChannel t.v0.c k + weight1 t p * colorChannel t.v1.c k + weight2 t p * colorChannel t.v2.c k ∧
        weight0 t p * colorChannel t.v0.c k + weight1 t p * colorChannel t.v1.c k + weight2 t p * colorChannel t.v2.c k
          ≤ 255 * area t ∧
        weight0 t p * colorChannel t.v0.c k + weight1 t p * colorChannel t.v1.c k + weight2 t p * colorChannel t.v2.c k
          < 2 ^ 43)

/-- Two triangles on opposite sides of a shared edge never both cover a pixel on it, and each pixel on it strictly between its
ends is covered by exactly one of them (R212 (c)). The shared edge joins vertices 0 and 1 of both; VertexOrderIrrelevant gives
the other orders. -/
def Obligations.SharedEdgePartitioned : Prop :=
  ∀ (a b c d : Point) (ca cb cc ca' cb' cd : Word) (p : Point),
    edge a b c * edge a b d < 0 → edge a b p = 0 →
    ¬ (covered (normalise ⟨⟨a, ca⟩, ⟨b, cb⟩, ⟨c, cc⟩⟩) p = true ∧
        covered (normalise ⟨⟨a, ca'⟩, ⟨b, cb'⟩, ⟨d, cd⟩⟩) p = true) ∧
    (0 < (p.x - a.x) * (b.x - a.x) + (p.y - a.y) * (b.y - a.y) →
      (p.x - a.x) * (b.x - a.x) + (p.y - a.y) * (b.y - a.y) <
        (b.x - a.x) * (b.x - a.x) + (b.y - a.y) * (b.y - a.y) →
      (covered (normalise ⟨⟨a, ca⟩, ⟨b, cb⟩, ⟨c, cc⟩⟩) p = true ∨
        covered (normalise ⟨⟨a, ca'⟩, ⟨b, cb'⟩, ⟨d, cd⟩⟩) p = true))

/-- Any order of the three vertices gives the same outcome, either winding included (R212 (e)). -/
def Obligations.VertexOrderIrrelevant : Prop :=
  ∀ (s : State) (v0 v1 v2 u0 u1 u2 : Vertex) (d : Bool), List.Perm [u0, u1, u2] [v0, v1, v2] →
    exec (.pushTriangle u0 u1 u2 d) s = exec (.pushTriangle v0 v1 v2 d) s

/-- A triangle under an offset writes what the shifted triangle writes under offset (0, 0), wherever the shifted positions
are 16-bit ones (R212 (d)). -/
def Obligations.OffsetEquivalence : Prop :=
  ∀ (s : State) (v0 v1 v2 u0 u1 u2 : Vertex) (d : Bool), s.fault.code = 0#3 → s.lifecycle = .inFrame →
    (∀ q ∈ [(v0, u0), (v1, u1), (v2, u2)],
      q.2.c = q.1.c ∧ q.2.x.toInt = q.1.x.toInt + s.drawOffset.ox.toInt ∧
        q.2.y.toInt = q.1.y.toInt + s.drawOffset.oy.toInt) →
    ∃ t t0 : State, exec (.pushTriangle v0 v1 v2 d) s = .next t ∧
      exec (.pushTriangle u0 u1 u2 d) { s with drawOffset := ⟨0, 0⟩ } = .next t0 ∧
      t.fb = t0.fb ∧ t = { t0 with drawOffset := s.drawOffset }

/-- The reserved byte of a color never affects a result (R106). -/
def Obligations.ReservedColorByteIgnored : Prop :=
  (∀ (c : Word), colorChannel c .r = c.toNat / 65536 % 256 ∧ colorChannel c .g = c.toNat / 256 % 256 ∧
    colorChannel c .b = c.toNat % 256) ∧
  ∀ (s : State) (v0 v1 v2 : Vertex) (c0 c1 c2 : Word) (d : Bool),
    c0.toNat % 2 ^ 24 = v0.c.toNat % 2 ^ 24 → c1.toNat % 2 ^ 24 = v1.c.toNat % 2 ^ 24 →
    c2.toNat % 2 ^ 24 = v2.c.toNat % 2 ^ 24 →
    exec (.pushTriangle ⟨v0.x, v0.y, c0⟩ ⟨v1.x, v1.y, c1⟩ ⟨v2.x, v2.y, c2⟩ d) s = exec (.pushTriangle v0 v1 v2 d) s

/-- A triangle writes each cell at most once, so any order of its writes leaves the same framebuffer (R211). -/
def Obligations.WriteOrderIrrelevant : Prop :=
  ∀ (cfg : Config) (o : DrawOffset) (a : DrawArea) (d24 d : Bool) (v0 v1 v2 : Vertex) (fb : Memory),
    Memory.wf cfg.background fb = true →
    ((trianglePixels cfg o a d24 v0 v1 v2 d).map Prod.fst).Nodup ∧
    ∀ ps, List.Perm ps (trianglePixels cfg o a d24 v0 v1 v2 d) →
      fbWriteAll cfg fb (pixelWrites ps) = fbWriteAll cfg fb (pixelWrites (trianglePixels cfg o a d24 v0 v1 v2 d))

/-- No pixel is written outside the clip region, so none outside the framebuffer (R193). -/
def Obligations.PixelsStayInClipRegion : Prop :=
  ∀ (cfg : Config) (o : DrawOffset) (a : DrawArea) (d24 d : Bool) (v0 v1 v2 : Vertex) (q : Point × Cell),
    q ∈ trianglePixels cfg o a d24 v0 v1 v2 d →
    (a.ax.toNat : Int) ≤ q.1.x ∧ q.1.x < min ((a.ax.toNat : Int) + a.aw.toNat) cfg.fbW ∧
    (a.ay.toNat : Int) ≤ q.1.y ∧ q.1.y < min ((a.ay.toNat : Int) + a.ah.toNat) cfg.fbH

/-- Dither and clamp: the table's entry for row y mod 4 and column x mod 4 is added, the same for every channel, only where the
flag says so; the table has period 4, lies in [-4, 3] and sums to -8 (R204, R205). The clamp to [0, 255] changes no interpolated
value of a covered pixel without dither (R206). -/
def Obligations.DitherAndClamp : Prop :=
  (∀ (p : Point) (v : Int), dithered false p v = v ∧ dithered true p v = v + ditherAt p) ∧
  (∀ p : Point, ditherAt p = ditherAt ⟨p.x % 4, p.y % 4⟩ ∧ -4 ≤ ditherAt p ∧ ditherAt p ≤ 3) ∧
  ((List.range 4).map (fun y => (List.range 4).map (fun x => ditherAt ⟨x, y⟩)) =
    [[-4, 0, -3, 1], [2, -2, 3, -1], [-3, 1, -4, 0], [3, -1, 2, -2]]) ∧
  ditherLut.flatten.sum = -8 ∧
  (∀ v : Int, clampChannel v ≤ 255 ∧ (v < 0 → clampChannel v = 0) ∧ (255 < v → clampChannel v = 255) ∧
    (0 ≤ v → v ≤ 255 → (clampChannel v : Int) = v)) ∧
  (∀ (t : Tri) (d : Bool) (p : Point) (k : Channel),
    channelValue t d p k = clampChannel (dithered d p (interpolate t p k))) ∧
  (∀ (t : Tri) (p : Point) (k : Channel), 0 < area t → covered t p = true →
    (channelValue t false p k : Int) = interpolate t p k)

/-- The two pixel layouts, field by field (R207, R208), and every pixel of a triangle packed at the depth of the draw, so that a
cell written while `D24 = 0` has bits 23..15 zero (R75). -/
def Obligations.PixelLayouts : Prop :=
  (∀ r g b : Nat, r < 256 → g < 256 → b < 256 →
    (packPixel false r g b).toNat = r / 8 * 1024 + g / 8 * 32 + b / 8 ∧
    (packPixel true r g b).toNat = r * 65536 + g * 256 + b) ∧
  (∀ (t : Tri) (d24 d : Bool) (p : Point),
    shade t d24 d p = packPixel d24 (channelValue t d p .r) (channelValue t d p .g) (channelValue t d p .b)) ∧
  (∀ (cfg : Config) (o : DrawOffset) (a : DrawArea) (v0 v1 v2 : Vertex) (d : Bool) (q : Point × Cell),
    q ∈ trianglePixels cfg o a false v0 v1 v2 d → q.2.toNat < 2 ^ 15)

/-! ### Frame lifecycle (44_frame_lifecycle.md) -/

/-- The lifecycle's only transitions (R240). -/
def Obligations.LifecycleTransitions : Prop :=
  ∀ s t : State, step s = .next t → t.lifecycle ≠ s.lifecycle →
    (∃ p, decode s.stream s.pos = .command (.openCore p) ∧ s.openOk = true ∧
      s.lifecycle = .closed ∧ t.lifecycle = .idle) ∨
    (decode s.stream s.pos = .command .prepareFrame ∧ s.lifecycle = .idle ∧ t.lifecycle = .inFrame) ∨
    (decode s.stream s.pos = .command .finalizeFrame ∧ s.lifecycle = .inFrame ∧ t.lifecycle = .idle) ∨
    (decode s.stream s.pos = .command .closeCore ∧ s.lifecycle = .idle ∧ t.lifecycle = .closed)

/-- PREPARE_FRAME: its word and faults; it holds while a frame is held; else it enters `InFrame`, with no register reset, and
without `CLEAR_ON_PREPARE` no cell changes (R241, R242, R243). -/
def Obligations.PrepareFrameResult : Prop :=
  encode .prepareFrame = [0x08000000#32] ∧
  ∀ s : State, s.fault.code = 0#3 →
    (s.lifecycle = .closed → exec .prepareFrame s = .next { s with fault := ⟨2, 0x08000000, s.pos⟩ }) ∧
    (s.lifecycle = .inFrame → exec .prepareFrame s = .next { s with fault := ⟨5, 0x08000000, s.pos⟩ }) ∧
    (s.lifecycle = .idle → s.presentHeld = true → exec .prepareFrame s = .next s) ∧
    (s.lifecycle = .idle → s.presentHeld = false → s.cfg.clearOnPrepare = false →
      exec .prepareFrame s = .next { s with lifecycle := .inFrame, pos := s.pos + 1 })

/-- With `CLEAR_ON_PREPARE`, PREPARE_FRAME sets exactly the cells of the display window to `BACKGROUND` (R243). -/
def Obligations.PrepareFrameClears : Prop :=
  ∀ s : State, s.fault.code = 0#3 → s.lifecycle = .idle → s.presentHeld = false → s.cfg.clearOnPrepare = true →
    modeInRange s.cfg s.displayMode = true → Memory.wf s.cfg.background s.fb = true →
    ∃ t : State, exec .prepareFrame s = .next t ∧
      t = { s with lifecycle := .inFrame, pos := s.pos + 1, fb := t.fb } ∧
      ∀ x y : Nat, x < s.cfg.fbW → y < s.cfg.fbH →
        fbRead t.cfg t.fb x y =
          if s.displayMode.dx.toNat ≤ x ∧ x < s.displayMode.dx.toNat + s.displayMode.dw.toNat ∧
              s.displayMode.dy.toNat ≤ y ∧ y < s.displayMode.dy.toNat + s.displayMode.dh.toNat
          then s.cfg.background else fbRead s.cfg s.fb x y

/-- A held PREPARE_FRAME stays as it is for as many turns as the command processor takes, and after the host's release it
executes: the frame is open (R242, R247). -/
def Obligations.HeldPrepareExecutesAfterRelease : Prop :=
  ∀ (k : Nat) (s : State) (ts : List Turn), s.Held → modeInRange s.cfg s.displayMode = true →
    s.turns = List.replicate k Turn.core ++ Turn.release :: Turn.core :: ts →
    Host.Core.run core k s = .next { s with turns := Turn.release :: Turn.core :: ts } ∧
    Host.Core.run core (k + 2) s = exec .prepareFrame { s with turns := ts, presentHeld := false } ∧
    ∃ t : State, Host.Core.run core (k + 2) s = .next t ∧ t.lifecycle = .inFrame ∧ t.pos = s.pos + 1

/-- FINALIZE_FRAME: its word and faults; in InFrame it stores the snapshot of the window in `PRESENT` and goes to Idle;
with `VIDEO_BOUND` the frame is also emitted and held (R244, R245, R246). -/
def Obligations.FinalizeFrameResult : Prop :=
  encode .finalizeFrame = [0x09000000#32] ∧
  ∀ s : State, s.fault.code = 0#3 →
    (s.lifecycle = .closed → exec .finalizeFrame s = .next { s with fault := ⟨2, 0x09000000, s.pos⟩ }) ∧
    (s.lifecycle = .idle → exec .finalizeFrame s = .next { s with fault := ⟨4, 0x09000000, s.pos⟩ }) ∧
    (s.lifecycle = .inFrame → modeInRange s.cfg s.displayMode = true →
      ∃ f : Frame,
        (s.videoBound = false → exec .finalizeFrame s =
          .next { s with present := some f, lifecycle := .idle, pos := s.pos + 1 }) ∧
        (s.videoBound = true → exec .finalizeFrame s =
          .next { s with present := some f, lifecycle := .idle, presentHeld := true,
                         out := s.out ++ [.videoRefresh f], pos := s.pos + 1 }) ∧
        f.w = s.displayMode.dw ∧ f.h = s.displayMode.dh ∧ f.d24 = s.displayMode.d24 ∧
        f.pix.length = s.displayMode.dh.toNat ∧
        (∀ row ∈ f.pix, row.length = s.displayMode.dw.toNat) ∧
        ∀ i j : Nat, i < s.displayMode.dw.toNat → j < s.displayMode.dh.toNat →
          ∃ c : Cell, (f.pix[j]?.bind (fun row => row[i]?)) = some c ∧
            c.toNat =
              if s.displayMode.d24 then
                (fbRead s.cfg s.fb (s.displayMode.dx.toNat + i) (s.displayMode.dy.toNat + j)).toNat
              else (fbRead s.cfg s.fb (s.displayMode.dx.toNat + i) (s.displayMode.dy.toNat + j)).toNat % 2 ^ 16)

/-- `VideoRefresh` is emitted by FINALIZE_FRAME only, once, with the new `PRESENT`, and holds it (R246). -/
def Obligations.VideoRefreshByFinalizeOnly : Prop :=
  ∀ (s t : State) (f : Frame), step s = .next t →
    t.out.count (.videoRefresh f) ≠ s.out.count (.videoRefresh f) →
    decode s.stream s.pos = .command .finalizeFrame ∧ s.videoBound = true ∧
      t.out = s.out ++ [.videoRefresh f] ∧ t.present = some f ∧ t.presentHeld = true

/-- The frame-release port clears `PRESENT_HELD` and changes nothing else, at any time, a latched fault included (R247);
the turn itself is the model's (log 1). -/
def Obligations.ReleasePort : Prop :=
  ∀ (s : State) (ts : List Turn), s.turns = .release :: ts →
    step s = .next { s with presentHeld := false, turns := ts } ∧
    (s.presentHeld = false → step s = .next { s with turns := ts })

/-- A release commutes with every command but a held PREPARE_FRAME and a FINALIZE_FRAME that holds its frame (R278's
sentence without that second exception is contradicted by R244 and R247, log 14). -/
def Obligations.ReleaseCommutes : Prop :=
  ∀ (i : Instr) (s : State), ¬ (i = .prepareFrame ∧ s.presentHeld = true) →
    ¬ (i = .finalizeFrame ∧ s.videoBound = true) →
    mapNext State.releaseFrame (exec i s) = exec i s.releaseFrame

/-- While the host holds a frame and does not release it, the core does not change it (R90, R305). -/
def Obligations.HeldFrameIsNotWritten : Prop :=
  ∀ s t : State, s.LifecycleInv → step s = .next t → s.presentHeld = true → t.presentHeld = true →
    t.present = s.present

/-- Every step keeps the lifecycle invariants (R249, R37). That the display mode stays legal while Closed too rests on the
model's choice of keeping it across CLOSE (log 11). -/
def Obligations.LifecycleInvariantsKept : Prop :=
  ∀ s t : State, s.LifecycleInv → step s = .next t → t.LifecycleInv

/-- Every step keeps the fault latch well formed and `POS` inside the stream (R31, R33, R270, R271). -/
def Obligations.LatchAndPositionKept : Prop :=
  ∀ s t : State, s.FaultInv → s.PosInv → step s = .next t → t.FaultInv ∧ t.PosInv

/-- The invariants hold at power-up, with any legal configuration, stream, turns and answers. The values of registers the
spec leaves unspecified there are the model's (log 7). -/
def Obligations.InvariantsAtPowerUp : Prop :=
  State.reset.LifecycleInv ∧
  ∀ (cfg : Config) (stream : List Word) (turns : List Turn) (answers : List Bool), cfg.wf →
    (State.boot cfg stream turns answers).LifecycleInv ∧ (State.boot cfg stream turns answers).FbInv ∧
    (State.boot cfg stream turns answers).FaultInv ∧ (State.boot cfg stream turns answers).PosInv

/-- No step stops the machine in a state with a legal display mode: the model-internal fault of R72 is unreachable, and no
command is refused. -/
def Obligations.NoStepStops : Prop :=
  ∀ s : State, modeInRange s.cfg s.displayMode = true → ∃ t, step s = .next t

/-! ### Outputs (30_encoding.md R113, 20_memory.md R77) -/

/-- The words of events: OpenResult's one, AvInfo's five by field, VideoRefresh's header and pixels in row order (R113). -/
def Obligations.EventWordLayout : Prop :=
  (∀ ok : Bool, eventWords (.openResult ok) = [if ok then 1#32 else 0#32]) ∧
  (∀ r : AvInfo, ∃ a0 a1 a2 a3 a4 : Word, eventWords (.avInfo r) = [a0, a1, a2, a3, a4] ∧
    a0.toNat = r.baseHeight.toNat * 65536 + r.baseWidth.toNat ∧
    a1.toNat = r.maxHeight.toNat * 65536 + r.maxWidth.toNat ∧
    a2.toNat = r.aspectDen.toNat * 65536 + r.aspectNum.toNat ∧
    a3 = r.fpsMhz ∧
    a4.toNat = r.totalLines.toNat * 65536 + (if r.isPal then 2 else 0) + (if r.depth24bpp then 1 else 0)) ∧
  (∀ f : Frame, f.wf →
    (eventWords (.videoRefresh f)).length = 2 + f.w.toNat * f.h.toNat ∧
    (∃ v0 v1 : Word, (eventWords (.videoRefresh f)).take 2 = [v0, v1] ∧
      v0.toNat = f.h.toNat * 65536 + f.w.toNat ∧ v1.toNat = if f.d24 then 1 else 0) ∧
    ∀ i j : Nat, i < f.w.toNat → j < f.h.toNat →
      ∃ (c : Cell) (w : Word), (f.pix[j]?.bind (fun row => row[i]?)) = some c ∧
        (eventWords (.videoRefresh f))[2 + (j * f.w.toNat + i)]? = some w ∧ w.toNat = c.toNat)

/-- The little-endian byte image: command words come back from their bytes; a 16-bit pixel is 2 bytes and a 24-bit one is
B, G, R, 0; a frame's image is its rows top to bottom, each left
to right, with no padding (R77). -/
def Obligations.ByteImage : Prop :=
  (∀ ws : List Word, wordsOfBytes (ws.flatMap wordBytes) = ws) ∧
  (∀ w : Word, (wordBytes w).map BitVec.toNat =
    [w.toNat % 256, w.toNat / 256 % 256, w.toNat / 65536 % 256, w.toNat / 16777216 % 256]) ∧
  (∀ c : Cell, (pixelBytes false c).map BitVec.toNat = [c.toNat % 256, c.toNat / 256 % 256] ∧
    (pixelBytes true c).map BitVec.toNat = [c.toNat % 256, c.toNat / 256 % 256, c.toNat / 65536, 0]) ∧
  (∀ f : Frame, f.wf →
    (frameBytes f).length = f.w.toNat * f.h.toNat * (if f.d24 then 4 else 2) ∧
    ∀ i j : Nat, i < f.w.toNat → j < f.h.toNat →
      ∃ c : Cell, (f.pix[j]?.bind (fun row => row[i]?)) = some c ∧
        ((frameBytes f).drop ((j * f.w.toNat + i) * (if f.d24 then 4 else 2))).take (if f.d24 then 4 else 2) =
          pixelBytes f.d24 c)
end

