-- ==== Sys2Proof/Laws/Encoding.lean ====
section
/-! SUPPORT. Fields of packed words, and the header word of each command as the spec writes it (R101, R104, R105, R107). -/

namespace Sys2Proof

theorem pairWord_toNat (lo hi : Half) : (pairWord lo hi).toNat = 2 ^ 16 * hi.toNat + lo.toNat := by
  have h1 := lo.isLt
  have h2 := hi.isLt
  simp only [pairWord, BitVec.toNat_ofNat]
  omega

theorem loHalf_toNat (w : Word) : (loHalf w).toNat = w.toNat % 2 ^ 16 := by
  simp [loHalf]

theorem hiHalf_toNat (w : Word) : (hiHalf w).toNat = w.toNat / 2 ^ 16 := by
  have h := w.isLt
  simp [hiHalf, Nat.shiftRight_eq_div_pow]
  omega

@[simp] theorem loHalf_pairWord (lo hi : Half) : loHalf (pairWord lo hi) = lo := by
  apply BitVec.eq_of_toNat_eq
  have h1 := lo.isLt
  rw [loHalf_toNat, pairWord_toNat]
  omega

@[simp] theorem hiHalf_pairWord (lo hi : Half) : hiHalf (pairWord lo hi) = hi := by
  apply BitVec.eq_of_toNat_eq
  have h1 := lo.isLt
  rw [hiHalf_toNat, pairWord_toNat]
  omega

@[simp] theorem pairWord_halves (w : Word) : pairWord (loHalf w) (hiHalf w) = w := by
  apply BitVec.eq_of_toNat_eq
  rw [pairWord_toNat, loHalf_toNat, hiHalf_toNat]
  omega

theorem packHeader_toNat (op : BitVec 8) (f : Bool) : (packHeader op f).toNat = 2 ^ 24 * op.toNat + f.toNat := by
  have h1 := op.isLt
  have h2 : f.toNat ≤ 1 := Bool.toNat_le f
  simp only [packHeader, BitVec.toNat_ofNat]
  omega

theorem opField_toNat (w : Word) : (opField w).toNat = w.toNat / 2 ^ 24 := by
  have h := w.isLt
  simp [opField, Nat.shiftRight_eq_div_pow]
  omega

theorem rsvField_toNat (w : Word) : (rsvField w).toNat = w.toNat / 2 % 2 ^ 23 := by
  simp [rsvField, Nat.shiftRight_eq_div_pow]

theorem flagField_eq (w : Word) : flagField w = decide (w.toNat % 2 = 1) := by
  simp only [flagField, BitVec.getLsbD, Nat.testBit, Nat.shiftRight_zero, Nat.one_and_eq_mod_two]
  cases h : decide (w.toNat % 2 = 1) <;> simp_all

@[simp] theorem opField_packHeader (op : BitVec 8) (f : Bool) : opField (packHeader op f) = op := by
  apply BitVec.eq_of_toNat_eq
  have h2 : f.toNat ≤ 1 := Bool.toNat_le f
  rw [opField_toNat, packHeader_toNat]
  omega

@[simp] theorem rsvField_packHeader (op : BitVec 8) (f : Bool) : rsvField (packHeader op f) = 0#23 := by
  apply BitVec.eq_of_toNat_eq
  have h2 : f.toNat ≤ 1 := Bool.toNat_le f
  rw [rsvField_toNat, packHeader_toNat]
  show _ = 0
  omega

@[simp] theorem flagField_packHeader (op : BitVec 8) (f : Bool) : flagField (packHeader op f) = f := by
  rw [flagField_eq, packHeader_toNat]
  cases f <;> simp <;> omega

/-- A header with zero reserved bits is packed from its fields (R101). -/
theorem packHeader_fields {w : Word} (h : rsvField w = 0#23) : packHeader (opField w) (flagField w) = w := by
  apply BitVec.eq_of_toNat_eq
  have hr : (rsvField w).toNat = 0 := by rw [h]; rfl
  rw [rsvField_toNat] at hr
  rw [packHeader_toNat, opField_toNat, flagField_eq]
  by_cases hb : w.toNat % 2 = 1 <;> simp [hb] <;> omega

@[simp] theorem opOfByte_opByte (op : Op) : opOfByte (opByte op) = some op := by
  cases op <;> decide

theorem opByte_of_opOfByte {b : BitVec 8} {op : Op} (h : opOfByte b = some op) : opByte op = b := by
  have all : ∀ n : Fin 256, ∀ o, opOfByte (BitVec.ofFin n) = some o → opByte o = BitVec.ofFin n := by
    intro n o
    cases o <;> (revert n; decide +kernel)
  exact all b.toFin op h

@[simp] theorem headerWord_openCore (p : Bool) :
    headerWord (.openCore p) = if p then 0x01000001#32 else 0x01000000#32 := by cases p <;> decide

@[simp] theorem headerWord_closeCore : headerWord .closeCore = 0x02000000#32 := by decide

@[simp] theorem headerWord_getSystemAvInfo : headerWord .getSystemAvInfo = 0x03000000#32 := by decide

@[simp] theorem headerWord_refreshVariables : headerWord .refreshVariables = 0x04000000#32 := by decide

@[simp] theorem headerWord_registerEnvCallback : headerWord .registerEnvCallback = 0x05000000#32 := by decide

@[simp] theorem headerWord_registerVideoCallback : headerWord .registerVideoCallback = 0x06000000#32 := by decide

@[simp] theorem headerWord_prepareFrame : headerWord .prepareFrame = 0x08000000#32 := by decide

@[simp] theorem headerWord_finalizeFrame : headerWord .finalizeFrame = 0x09000000#32 := by decide

@[simp] theorem headerWord_setDrawOffset (x y : Half) : headerWord (.setDrawOffset x y) = 0x10000000#32 := by
  show packHeader 0x10 false = _; decide

@[simp] theorem headerWord_setDrawArea (x y w h : Half) : headerWord (.setDrawArea x y w h) = 0x11000000#32 := by
  show packHeader 0x11 false = _; decide

@[simp] theorem headerWord_setDisplayMode (x y w h : Half) (d : Bool) :
    headerWord (.setDisplayMode x y w h d) = if d then 0x12000001#32 else 0x12000000#32 := by
  show packHeader 0x12 d = _; cases d <;> decide

@[simp] theorem headerWord_pushTriangle (v0 v1 v2 : Vertex) (d : Bool) :
    headerWord (.pushTriangle v0 v1 v2 d) = if d then 0x20000001#32 else 0x20000000#32 := by
  show packHeader 0x20 d = _; cases d <;> decide

/-- A packet's length (R103). -/
@[simp] theorem encode_length (i : Instr) : (encode i).length = packetLen i := by cases i <;> rfl

/-- No packet is empty (R100). -/
theorem packetLen_pos (i : Instr) : 0 < packetLen i := by cases i <;> simp [packetLen, opOf, opLen]

end Sys2Proof
end

