-- ==== Sys2Proof/Laws/State.lean ====
section
/-! SUPPORT. For each update of the state and each field, what the field holds after the update: simp lemmas, so that no
later proof unfolds a record update. -/

namespace Sys2Proof.Machine

@[simp] theorem State.emit_cfg (e : Event) (s : State) : (s.emit e).cfg = s.cfg := rfl
@[simp] theorem State.emit_pos (e : Event) (s : State) : (s.emit e).pos = s.pos := rfl
@[simp] theorem State.emit_lifecycle (e : Event) (s : State) : (s.emit e).lifecycle = s.lifecycle := rfl
@[simp] theorem State.emit_fault (e : Event) (s : State) : (s.emit e).fault = s.fault := rfl
@[simp] theorem State.emit_isPal (e : Event) (s : State) : (s.emit e).isPal = s.isPal := rfl
@[simp] theorem State.emit_drawOffset (e : Event) (s : State) : (s.emit e).drawOffset = s.drawOffset := rfl
@[simp] theorem State.emit_drawArea (e : Event) (s : State) : (s.emit e).drawArea = s.drawArea := rfl
@[simp] theorem State.emit_displayMode (e : Event) (s : State) : (s.emit e).displayMode = s.displayMode := rfl
@[simp] theorem State.emit_fb (e : Event) (s : State) : (s.emit e).fb = s.fb := rfl
@[simp] theorem State.emit_present (e : Event) (s : State) : (s.emit e).present = s.present := rfl
@[simp] theorem State.emit_presentHeld (e : Event) (s : State) : (s.emit e).presentHeld = s.presentHeld := rfl
@[simp] theorem State.emit_envBound (e : Event) (s : State) : (s.emit e).envBound = s.envBound := rfl
@[simp] theorem State.emit_videoBound (e : Event) (s : State) : (s.emit e).videoBound = s.videoBound := rfl
@[simp] theorem State.emit_out (e : Event) (s : State) : (s.emit e).out = s.out ++ [e] := rfl
@[simp] theorem State.emit_stream (e : Event) (s : State) : (s.emit e).stream = s.stream := rfl
@[simp] theorem State.emit_turns (e : Event) (s : State) : (s.emit e).turns = s.turns := rfl
@[simp] theorem State.emit_openAnswers (e : Event) (s : State) : (s.emit e).openAnswers = s.openAnswers := rfl
@[simp] theorem State.emit_openDraws (e : Event) (s : State) : (s.emit e).openDraws = s.openDraws := rfl

@[simp] theorem State.advance_cfg (n : Nat) (s : State) : (s.advance n).cfg = s.cfg := rfl
@[simp] theorem State.advance_pos (n : Nat) (s : State) : (s.advance n).pos = s.pos + n := rfl
@[simp] theorem State.advance_lifecycle (n : Nat) (s : State) : (s.advance n).lifecycle = s.lifecycle := rfl
@[simp] theorem State.advance_fault (n : Nat) (s : State) : (s.advance n).fault = s.fault := rfl
@[simp] theorem State.advance_isPal (n : Nat) (s : State) : (s.advance n).isPal = s.isPal := rfl
@[simp] theorem State.advance_drawOffset (n : Nat) (s : State) : (s.advance n).drawOffset = s.drawOffset := rfl
@[simp] theorem State.advance_drawArea (n : Nat) (s : State) : (s.advance n).drawArea = s.drawArea := rfl
@[simp] theorem State.advance_displayMode (n : Nat) (s : State) : (s.advance n).displayMode = s.displayMode := rfl
@[simp] theorem State.advance_fb (n : Nat) (s : State) : (s.advance n).fb = s.fb := rfl
@[simp] theorem State.advance_present (n : Nat) (s : State) : (s.advance n).present = s.present := rfl
@[simp] theorem State.advance_presentHeld (n : Nat) (s : State) : (s.advance n).presentHeld = s.presentHeld := rfl
@[simp] theorem State.advance_envBound (n : Nat) (s : State) : (s.advance n).envBound = s.envBound := rfl
@[simp] theorem State.advance_videoBound (n : Nat) (s : State) : (s.advance n).videoBound = s.videoBound := rfl
@[simp] theorem State.advance_out (n : Nat) (s : State) : (s.advance n).out = s.out := rfl
@[simp] theorem State.advance_stream (n : Nat) (s : State) : (s.advance n).stream = s.stream := rfl
@[simp] theorem State.advance_turns (n : Nat) (s : State) : (s.advance n).turns = s.turns := rfl
@[simp] theorem State.advance_openAnswers (n : Nat) (s : State) : (s.advance n).openAnswers = s.openAnswers := rfl
@[simp] theorem State.advance_openDraws (n : Nat) (s : State) : (s.advance n).openDraws = s.openDraws := rfl

@[simp] theorem State.complete_cfg (i : Instr) (s : State) : (s.complete i).cfg = s.cfg := rfl
@[simp] theorem State.complete_pos (i : Instr) (s : State) : (s.complete i).pos = s.pos + packetLen i := rfl
@[simp] theorem State.complete_lifecycle (i : Instr) (s : State) : (s.complete i).lifecycle = s.lifecycle := rfl
@[simp] theorem State.complete_fault (i : Instr) (s : State) : (s.complete i).fault = s.fault := rfl
@[simp] theorem State.complete_isPal (i : Instr) (s : State) : (s.complete i).isPal = s.isPal := rfl
@[simp] theorem State.complete_drawOffset (i : Instr) (s : State) : (s.complete i).drawOffset = s.drawOffset := rfl
@[simp] theorem State.complete_drawArea (i : Instr) (s : State) : (s.complete i).drawArea = s.drawArea := rfl
@[simp] theorem State.complete_displayMode (i : Instr) (s : State) : (s.complete i).displayMode = s.displayMode := rfl
@[simp] theorem State.complete_fb (i : Instr) (s : State) : (s.complete i).fb = s.fb := rfl
@[simp] theorem State.complete_present (i : Instr) (s : State) : (s.complete i).present = s.present := rfl
@[simp] theorem State.complete_presentHeld (i : Instr) (s : State) : (s.complete i).presentHeld = s.presentHeld := rfl
@[simp] theorem State.complete_envBound (i : Instr) (s : State) : (s.complete i).envBound = s.envBound := rfl
@[simp] theorem State.complete_videoBound (i : Instr) (s : State) : (s.complete i).videoBound = s.videoBound := rfl
@[simp] theorem State.complete_out (i : Instr) (s : State) : (s.complete i).out = s.out := rfl
@[simp] theorem State.complete_stream (i : Instr) (s : State) : (s.complete i).stream = s.stream := rfl
@[simp] theorem State.complete_turns (i : Instr) (s : State) : (s.complete i).turns = s.turns := rfl
@[simp] theorem State.complete_openAnswers (i : Instr) (s : State) : (s.complete i).openAnswers = s.openAnswers := rfl
@[simp] theorem State.complete_openDraws (i : Instr) (s : State) : (s.complete i).openDraws = s.openDraws := rfl

@[simp] theorem State.takeDraw_cfg (s : State) : s.takeDraw.cfg = s.cfg := rfl
@[simp] theorem State.takeDraw_pos (s : State) : s.takeDraw.pos = s.pos := rfl
@[simp] theorem State.takeDraw_lifecycle (s : State) : s.takeDraw.lifecycle = s.lifecycle := rfl
@[simp] theorem State.takeDraw_fault (s : State) : s.takeDraw.fault = s.fault := rfl
@[simp] theorem State.takeDraw_isPal (s : State) : s.takeDraw.isPal = s.isPal := rfl
@[simp] theorem State.takeDraw_drawOffset (s : State) : s.takeDraw.drawOffset = s.drawOffset := rfl
@[simp] theorem State.takeDraw_drawArea (s : State) : s.takeDraw.drawArea = s.drawArea := rfl
@[simp] theorem State.takeDraw_displayMode (s : State) : s.takeDraw.displayMode = s.displayMode := rfl
@[simp] theorem State.takeDraw_fb (s : State) : s.takeDraw.fb = s.fb := rfl
@[simp] theorem State.takeDraw_present (s : State) : s.takeDraw.present = s.present := rfl
@[simp] theorem State.takeDraw_presentHeld (s : State) : s.takeDraw.presentHeld = s.presentHeld := rfl
@[simp] theorem State.takeDraw_envBound (s : State) : s.takeDraw.envBound = s.envBound := rfl
@[simp] theorem State.takeDraw_videoBound (s : State) : s.takeDraw.videoBound = s.videoBound := rfl
@[simp] theorem State.takeDraw_out (s : State) : s.takeDraw.out = s.out := rfl
@[simp] theorem State.takeDraw_stream (s : State) : s.takeDraw.stream = s.stream := rfl
@[simp] theorem State.takeDraw_turns (s : State) : s.takeDraw.turns = s.turns := rfl
@[simp] theorem State.takeDraw_openAnswers (s : State) : s.takeDraw.openAnswers = s.openAnswers.tail := rfl
@[simp] theorem State.takeDraw_openDraws (s : State) : s.takeDraw.openDraws = s.openDraws + 1 := rfl

@[simp] theorem State.releaseFrame_cfg (s : State) : s.releaseFrame.cfg = s.cfg := rfl
@[simp] theorem State.releaseFrame_pos (s : State) : s.releaseFrame.pos = s.pos := rfl
@[simp] theorem State.releaseFrame_lifecycle (s : State) : s.releaseFrame.lifecycle = s.lifecycle := rfl
@[simp] theorem State.releaseFrame_fault (s : State) : s.releaseFrame.fault = s.fault := rfl
@[simp] theorem State.releaseFrame_isPal (s : State) : s.releaseFrame.isPal = s.isPal := rfl
@[simp] theorem State.releaseFrame_drawOffset (s : State) : s.releaseFrame.drawOffset = s.drawOffset := rfl
@[simp] theorem State.releaseFrame_drawArea (s : State) : s.releaseFrame.drawArea = s.drawArea := rfl
@[simp] theorem State.releaseFrame_displayMode (s : State) : s.releaseFrame.displayMode = s.displayMode := rfl
@[simp] theorem State.releaseFrame_fb (s : State) : s.releaseFrame.fb = s.fb := rfl
@[simp] theorem State.releaseFrame_present (s : State) : s.releaseFrame.present = s.present := rfl
@[simp] theorem State.releaseFrame_presentHeld (s : State) : s.releaseFrame.presentHeld = false := rfl
@[simp] theorem State.releaseFrame_envBound (s : State) : s.releaseFrame.envBound = s.envBound := rfl
@[simp] theorem State.releaseFrame_videoBound (s : State) : s.releaseFrame.videoBound = s.videoBound := rfl
@[simp] theorem State.releaseFrame_out (s : State) : s.releaseFrame.out = s.out := rfl
@[simp] theorem State.releaseFrame_stream (s : State) : s.releaseFrame.stream = s.stream := rfl
@[simp] theorem State.releaseFrame_turns (s : State) : s.releaseFrame.turns = s.turns := rfl
@[simp] theorem State.releaseFrame_openAnswers (s : State) : s.releaseFrame.openAnswers = s.openAnswers := rfl
@[simp] theorem State.releaseFrame_openDraws (s : State) : s.releaseFrame.openDraws = s.openDraws := rfl

@[simp] theorem State.sendWord_cfg (w : Word) (s : State) : (s.sendWord w).cfg = s.cfg := rfl
@[simp] theorem State.sendWord_pos (w : Word) (s : State) : (s.sendWord w).pos = s.pos := rfl
@[simp] theorem State.sendWord_lifecycle (w : Word) (s : State) : (s.sendWord w).lifecycle = s.lifecycle := rfl
@[simp] theorem State.sendWord_fault (w : Word) (s : State) : (s.sendWord w).fault = s.fault := rfl
@[simp] theorem State.sendWord_isPal (w : Word) (s : State) : (s.sendWord w).isPal = s.isPal := rfl
@[simp] theorem State.sendWord_drawOffset (w : Word) (s : State) : (s.sendWord w).drawOffset = s.drawOffset := rfl
@[simp] theorem State.sendWord_drawArea (w : Word) (s : State) : (s.sendWord w).drawArea = s.drawArea := rfl
@[simp] theorem State.sendWord_displayMode (w : Word) (s : State) : (s.sendWord w).displayMode = s.displayMode := rfl
@[simp] theorem State.sendWord_fb (w : Word) (s : State) : (s.sendWord w).fb = s.fb := rfl
@[simp] theorem State.sendWord_present (w : Word) (s : State) : (s.sendWord w).present = s.present := rfl
@[simp] theorem State.sendWord_presentHeld (w : Word) (s : State) : (s.sendWord w).presentHeld = s.presentHeld := rfl
@[simp] theorem State.sendWord_envBound (w : Word) (s : State) : (s.sendWord w).envBound = s.envBound := rfl
@[simp] theorem State.sendWord_videoBound (w : Word) (s : State) : (s.sendWord w).videoBound = s.videoBound := rfl
@[simp] theorem State.sendWord_out (w : Word) (s : State) : (s.sendWord w).out = s.out := rfl
@[simp] theorem State.sendWord_stream (w : Word) (s : State) : (s.sendWord w).stream = s.stream ++ [w] := rfl
@[simp] theorem State.sendWord_turns (w : Word) (s : State) : (s.sendWord w).turns = s.turns := rfl
@[simp] theorem State.sendWord_openAnswers (w : Word) (s : State) : (s.sendWord w).openAnswers = s.openAnswers := rfl
@[simp] theorem State.sendWord_openDraws (w : Word) (s : State) : (s.sendWord w).openDraws = s.openDraws := rfl

@[simp] theorem State.initialise_cfg (p : Bool) (s : State) : (s.initialise p).cfg = s.cfg := rfl
@[simp] theorem State.initialise_pos (p : Bool) (s : State) : (s.initialise p).pos = s.pos := rfl
@[simp] theorem State.initialise_lifecycle (p : Bool) (s : State) : (s.initialise p).lifecycle = .idle := rfl
@[simp] theorem State.initialise_fault (p : Bool) (s : State) : (s.initialise p).fault = s.fault := rfl
@[simp] theorem State.initialise_isPal (p : Bool) (s : State) : (s.initialise p).isPal = p := rfl
@[simp] theorem State.initialise_drawOffset (p : Bool) (s : State) : (s.initialise p).drawOffset = ⟨0, 0⟩ := rfl
@[simp] theorem State.initialise_drawArea (p : Bool) (s : State) : (s.initialise p).drawArea = ⟨0, 0, 0, 0⟩ := rfl
@[simp] theorem State.initialise_displayMode (p : Bool) (s : State) : (s.initialise p).displayMode = s.cfg.defaultDisplayMode := rfl
@[simp] theorem State.initialise_fb (p : Bool) (s : State) : (s.initialise p).fb = [] := rfl
@[simp] theorem State.initialise_present (p : Bool) (s : State) : (s.initialise p).present = none := rfl
@[simp] theorem State.initialise_presentHeld (p : Bool) (s : State) : (s.initialise p).presentHeld = false := rfl
@[simp] theorem State.initialise_envBound (p : Bool) (s : State) : (s.initialise p).envBound = s.envBound := rfl
@[simp] theorem State.initialise_videoBound (p : Bool) (s : State) : (s.initialise p).videoBound = s.videoBound := rfl
@[simp] theorem State.initialise_out (p : Bool) (s : State) : (s.initialise p).out = s.out := rfl
@[simp] theorem State.initialise_stream (p : Bool) (s : State) : (s.initialise p).stream = s.stream := rfl
@[simp] theorem State.initialise_turns (p : Bool) (s : State) : (s.initialise p).turns = s.turns := rfl
@[simp] theorem State.initialise_openAnswers (p : Bool) (s : State) : (s.initialise p).openAnswers = s.openAnswers := rfl
@[simp] theorem State.initialise_openDraws (p : Bool) (s : State) : (s.initialise p).openDraws = s.openDraws := rfl

@[simp] theorem State.shut_cfg (s : State) : s.shut.cfg = s.cfg := rfl
@[simp] theorem State.shut_pos (s : State) : s.shut.pos = s.pos := rfl
@[simp] theorem State.shut_lifecycle (s : State) : s.shut.lifecycle = .closed := rfl
@[simp] theorem State.shut_fault (s : State) : s.shut.fault = s.fault := rfl
@[simp] theorem State.shut_isPal (s : State) : s.shut.isPal = s.isPal := rfl
@[simp] theorem State.shut_drawOffset (s : State) : s.shut.drawOffset = s.drawOffset := rfl
@[simp] theorem State.shut_drawArea (s : State) : s.shut.drawArea = s.drawArea := rfl
@[simp] theorem State.shut_displayMode (s : State) : s.shut.displayMode = s.displayMode := rfl
@[simp] theorem State.shut_fb (s : State) : s.shut.fb = s.fb := rfl
@[simp] theorem State.shut_present (s : State) : s.shut.present = none := rfl
@[simp] theorem State.shut_presentHeld (s : State) : s.shut.presentHeld = false := rfl
@[simp] theorem State.shut_envBound (s : State) : s.shut.envBound = s.envBound := rfl
@[simp] theorem State.shut_videoBound (s : State) : s.shut.videoBound = s.videoBound := rfl
@[simp] theorem State.shut_out (s : State) : s.shut.out = s.out := rfl
@[simp] theorem State.shut_stream (s : State) : s.shut.stream = s.stream := rfl
@[simp] theorem State.shut_turns (s : State) : s.shut.turns = s.turns := rfl
@[simp] theorem State.shut_openAnswers (s : State) : s.shut.openAnswers = s.openAnswers := rfl
@[simp] theorem State.shut_openDraws (s : State) : s.shut.openDraws = s.openDraws := rfl

@[simp] theorem State.enterFrame_cfg (s : State) : s.enterFrame.cfg = s.cfg := rfl
@[simp] theorem State.enterFrame_pos (s : State) : s.enterFrame.pos = s.pos := rfl
@[simp] theorem State.enterFrame_lifecycle (s : State) : s.enterFrame.lifecycle = .inFrame := rfl
@[simp] theorem State.enterFrame_fault (s : State) : s.enterFrame.fault = s.fault := rfl
@[simp] theorem State.enterFrame_isPal (s : State) : s.enterFrame.isPal = s.isPal := rfl
@[simp] theorem State.enterFrame_drawOffset (s : State) : s.enterFrame.drawOffset = s.drawOffset := rfl
@[simp] theorem State.enterFrame_drawArea (s : State) : s.enterFrame.drawArea = s.drawArea := rfl
@[simp] theorem State.enterFrame_displayMode (s : State) : s.enterFrame.displayMode = s.displayMode := rfl
@[simp] theorem State.enterFrame_fb (s : State) : s.enterFrame.fb = s.fb := rfl
@[simp] theorem State.enterFrame_present (s : State) : s.enterFrame.present = s.present := rfl
@[simp] theorem State.enterFrame_presentHeld (s : State) : s.enterFrame.presentHeld = s.presentHeld := rfl
@[simp] theorem State.enterFrame_envBound (s : State) : s.enterFrame.envBound = s.envBound := rfl
@[simp] theorem State.enterFrame_videoBound (s : State) : s.enterFrame.videoBound = s.videoBound := rfl
@[simp] theorem State.enterFrame_out (s : State) : s.enterFrame.out = s.out := rfl
@[simp] theorem State.enterFrame_stream (s : State) : s.enterFrame.stream = s.stream := rfl
@[simp] theorem State.enterFrame_turns (s : State) : s.enterFrame.turns = s.turns := rfl
@[simp] theorem State.enterFrame_openAnswers (s : State) : s.enterFrame.openAnswers = s.openAnswers := rfl
@[simp] theorem State.enterFrame_openDraws (s : State) : s.enterFrame.openDraws = s.openDraws := rfl

@[simp] theorem State.endFrame_cfg (f : Frame) (s : State) : (s.endFrame f).cfg = s.cfg := rfl
@[simp] theorem State.endFrame_pos (f : Frame) (s : State) : (s.endFrame f).pos = s.pos := rfl
@[simp] theorem State.endFrame_lifecycle (f : Frame) (s : State) : (s.endFrame f).lifecycle = .idle := rfl
@[simp] theorem State.endFrame_fault (f : Frame) (s : State) : (s.endFrame f).fault = s.fault := rfl
@[simp] theorem State.endFrame_isPal (f : Frame) (s : State) : (s.endFrame f).isPal = s.isPal := rfl
@[simp] theorem State.endFrame_drawOffset (f : Frame) (s : State) : (s.endFrame f).drawOffset = s.drawOffset := rfl
@[simp] theorem State.endFrame_drawArea (f : Frame) (s : State) : (s.endFrame f).drawArea = s.drawArea := rfl
@[simp] theorem State.endFrame_displayMode (f : Frame) (s : State) : (s.endFrame f).displayMode = s.displayMode := rfl
@[simp] theorem State.endFrame_fb (f : Frame) (s : State) : (s.endFrame f).fb = s.fb := rfl
@[simp] theorem State.endFrame_present (f : Frame) (s : State) : (s.endFrame f).present = some f := rfl
@[simp] theorem State.endFrame_presentHeld (f : Frame) (s : State) : (s.endFrame f).presentHeld = s.presentHeld := rfl
@[simp] theorem State.endFrame_envBound (f : Frame) (s : State) : (s.endFrame f).envBound = s.envBound := rfl
@[simp] theorem State.endFrame_videoBound (f : Frame) (s : State) : (s.endFrame f).videoBound = s.videoBound := rfl
@[simp] theorem State.endFrame_out (f : Frame) (s : State) : (s.endFrame f).out = s.out := rfl
@[simp] theorem State.endFrame_stream (f : Frame) (s : State) : (s.endFrame f).stream = s.stream := rfl
@[simp] theorem State.endFrame_turns (f : Frame) (s : State) : (s.endFrame f).turns = s.turns := rfl
@[simp] theorem State.endFrame_openAnswers (f : Frame) (s : State) : (s.endFrame f).openAnswers = s.openAnswers := rfl
@[simp] theorem State.endFrame_openDraws (f : Frame) (s : State) : (s.endFrame f).openDraws = s.openDraws := rfl

@[simp] theorem State.clearWindow_cfg (s : State) : s.clearWindow.cfg = s.cfg := rfl
@[simp] theorem State.clearWindow_pos (s : State) : s.clearWindow.pos = s.pos := rfl
@[simp] theorem State.clearWindow_lifecycle (s : State) : s.clearWindow.lifecycle = s.lifecycle := rfl
@[simp] theorem State.clearWindow_fault (s : State) : s.clearWindow.fault = s.fault := rfl
@[simp] theorem State.clearWindow_isPal (s : State) : s.clearWindow.isPal = s.isPal := rfl
@[simp] theorem State.clearWindow_drawOffset (s : State) : s.clearWindow.drawOffset = s.drawOffset := rfl
@[simp] theorem State.clearWindow_drawArea (s : State) : s.clearWindow.drawArea = s.drawArea := rfl
@[simp] theorem State.clearWindow_displayMode (s : State) : s.clearWindow.displayMode = s.displayMode := rfl
@[simp] theorem State.clearWindow_fb (s : State) : s.clearWindow.fb = fbWriteAll s.cfg s.fb ((windowCells s.displayMode).map (fun c => (c, s.cfg.background))) := rfl
@[simp] theorem State.clearWindow_present (s : State) : s.clearWindow.present = s.present := rfl
@[simp] theorem State.clearWindow_presentHeld (s : State) : s.clearWindow.presentHeld = s.presentHeld := rfl
@[simp] theorem State.clearWindow_envBound (s : State) : s.clearWindow.envBound = s.envBound := rfl
@[simp] theorem State.clearWindow_videoBound (s : State) : s.clearWindow.videoBound = s.videoBound := rfl
@[simp] theorem State.clearWindow_out (s : State) : s.clearWindow.out = s.out := rfl
@[simp] theorem State.clearWindow_stream (s : State) : s.clearWindow.stream = s.stream := rfl
@[simp] theorem State.clearWindow_turns (s : State) : s.clearWindow.turns = s.turns := rfl
@[simp] theorem State.clearWindow_openAnswers (s : State) : s.clearWindow.openAnswers = s.openAnswers := rfl
@[simp] theorem State.clearWindow_openDraws (s : State) : s.clearWindow.openDraws = s.openDraws := rfl

@[simp] theorem State.draw_cfg (v0 v1 v2 : Vertex) (d : Bool) (s : State) : (s.draw v0 v1 v2 d).cfg = s.cfg := rfl
@[simp] theorem State.draw_pos (v0 v1 v2 : Vertex) (d : Bool) (s : State) : (s.draw v0 v1 v2 d).pos = s.pos := rfl
@[simp] theorem State.draw_lifecycle (v0 v1 v2 : Vertex) (d : Bool) (s : State) : (s.draw v0 v1 v2 d).lifecycle = s.lifecycle := rfl
@[simp] theorem State.draw_fault (v0 v1 v2 : Vertex) (d : Bool) (s : State) : (s.draw v0 v1 v2 d).fault = s.fault := rfl
@[simp] theorem State.draw_isPal (v0 v1 v2 : Vertex) (d : Bool) (s : State) : (s.draw v0 v1 v2 d).isPal = s.isPal := rfl
@[simp] theorem State.draw_drawOffset (v0 v1 v2 : Vertex) (d : Bool) (s : State) : (s.draw v0 v1 v2 d).drawOffset = s.drawOffset := rfl
@[simp] theorem State.draw_drawArea (v0 v1 v2 : Vertex) (d : Bool) (s : State) : (s.draw v0 v1 v2 d).drawArea = s.drawArea := rfl
@[simp] theorem State.draw_displayMode (v0 v1 v2 : Vertex) (d : Bool) (s : State) : (s.draw v0 v1 v2 d).displayMode = s.displayMode := rfl
@[simp] theorem State.draw_fb (v0 v1 v2 : Vertex) (d : Bool) (s : State) : (s.draw v0 v1 v2 d).fb = fbWriteAll s.cfg s.fb (pixelWrites
      (trianglePixels s.cfg s.drawOffset s.drawArea s.displayMode.d24 v0 v1 v2 d)) := rfl
@[simp] theorem State.draw_present (v0 v1 v2 : Vertex) (d : Bool) (s : State) : (s.draw v0 v1 v2 d).present = s.present := rfl
@[simp] theorem State.draw_presentHeld (v0 v1 v2 : Vertex) (d : Bool) (s : State) : (s.draw v0 v1 v2 d).presentHeld = s.presentHeld := rfl
@[simp] theorem State.draw_envBound (v0 v1 v2 : Vertex) (d : Bool) (s : State) : (s.draw v0 v1 v2 d).envBound = s.envBound := rfl
@[simp] theorem State.draw_videoBound (v0 v1 v2 : Vertex) (d : Bool) (s : State) : (s.draw v0 v1 v2 d).videoBound = s.videoBound := rfl
@[simp] theorem State.draw_out (v0 v1 v2 : Vertex) (d : Bool) (s : State) : (s.draw v0 v1 v2 d).out = s.out := rfl
@[simp] theorem State.draw_stream (v0 v1 v2 : Vertex) (d : Bool) (s : State) : (s.draw v0 v1 v2 d).stream = s.stream := rfl
@[simp] theorem State.draw_turns (v0 v1 v2 : Vertex) (d : Bool) (s : State) : (s.draw v0 v1 v2 d).turns = s.turns := rfl
@[simp] theorem State.draw_openAnswers (v0 v1 v2 : Vertex) (d : Bool) (s : State) : (s.draw v0 v1 v2 d).openAnswers = s.openAnswers := rfl
@[simp] theorem State.draw_openDraws (v0 v1 v2 : Vertex) (d : Bool) (s : State) : (s.draw v0 v1 v2 d).openDraws = s.openDraws := rfl

@[simp] theorem State.tookTurn_cfg (s : State) : s.tookTurn.cfg = s.cfg := rfl
@[simp] theorem State.tookTurn_pos (s : State) : s.tookTurn.pos = s.pos := rfl
@[simp] theorem State.tookTurn_lifecycle (s : State) : s.tookTurn.lifecycle = s.lifecycle := rfl
@[simp] theorem State.tookTurn_fault (s : State) : s.tookTurn.fault = s.fault := rfl
@[simp] theorem State.tookTurn_isPal (s : State) : s.tookTurn.isPal = s.isPal := rfl
@[simp] theorem State.tookTurn_drawOffset (s : State) : s.tookTurn.drawOffset = s.drawOffset := rfl
@[simp] theorem State.tookTurn_drawArea (s : State) : s.tookTurn.drawArea = s.drawArea := rfl
@[simp] theorem State.tookTurn_displayMode (s : State) : s.tookTurn.displayMode = s.displayMode := rfl
@[simp] theorem State.tookTurn_fb (s : State) : s.tookTurn.fb = s.fb := rfl
@[simp] theorem State.tookTurn_present (s : State) : s.tookTurn.present = s.present := rfl
@[simp] theorem State.tookTurn_presentHeld (s : State) : s.tookTurn.presentHeld = s.presentHeld := rfl
@[simp] theorem State.tookTurn_envBound (s : State) : s.tookTurn.envBound = s.envBound := rfl
@[simp] theorem State.tookTurn_videoBound (s : State) : s.tookTurn.videoBound = s.videoBound := rfl
@[simp] theorem State.tookTurn_out (s : State) : s.tookTurn.out = s.out := rfl
@[simp] theorem State.tookTurn_stream (s : State) : s.tookTurn.stream = s.stream := rfl
@[simp] theorem State.tookTurn_turns (s : State) : s.tookTurn.turns = s.turns.tail := rfl
@[simp] theorem State.tookTurn_openAnswers (s : State) : s.tookTurn.openAnswers = s.openAnswers := rfl
@[simp] theorem State.tookTurn_openDraws (s : State) : s.tookTurn.openDraws = s.openDraws := rfl

@[simp] theorem State.raiseFault_cfg (v : Violation) (w : Word) (s : State) : (s.raiseFault v w).cfg = s.cfg := by
  unfold State.raiseFault; split <;> rfl
@[simp] theorem State.raiseFault_pos (v : Violation) (w : Word) (s : State) : (s.raiseFault v w).pos = s.pos := by
  unfold State.raiseFault; split <;> rfl
@[simp] theorem State.raiseFault_lifecycle (v : Violation) (w : Word) (s : State) : (s.raiseFault v w).lifecycle = s.lifecycle := by
  unfold State.raiseFault; split <;> rfl
@[simp] theorem State.raiseFault_fault (v : Violation) (w : Word) (s : State) : (s.raiseFault v w).fault = if s.fault.code = 0#3 then ⟨v.code, w, s.pos⟩ else s.fault := by
  unfold State.raiseFault; split <;> rfl
@[simp] theorem State.raiseFault_isPal (v : Violation) (w : Word) (s : State) : (s.raiseFault v w).isPal = s.isPal := by
  unfold State.raiseFault; split <;> rfl
@[simp] theorem State.raiseFault_drawOffset (v : Violation) (w : Word) (s : State) : (s.raiseFault v w).drawOffset = s.drawOffset := by
  unfold State.raiseFault; split <;> rfl
@[simp] theorem State.raiseFault_drawArea (v : Violation) (w : Word) (s : State) : (s.raiseFault v w).drawArea = s.drawArea := by
  unfold State.raiseFault; split <;> rfl
@[simp] theorem State.raiseFault_displayMode (v : Violation) (w : Word) (s : State) : (s.raiseFault v w).displayMode = s.displayMode := by
  unfold State.raiseFault; split <;> rfl
@[simp] theorem State.raiseFault_fb (v : Violation) (w : Word) (s : State) : (s.raiseFault v w).fb = s.fb := by
  unfold State.raiseFault; split <;> rfl
@[simp] theorem State.raiseFault_present (v : Violation) (w : Word) (s : State) : (s.raiseFault v w).present = s.present := by
  unfold State.raiseFault; split <;> rfl
@[simp] theorem State.raiseFault_presentHeld (v : Violation) (w : Word) (s : State) : (s.raiseFault v w).presentHeld = s.presentHeld := by
  unfold State.raiseFault; split <;> rfl
@[simp] theorem State.raiseFault_envBound (v : Violation) (w : Word) (s : State) : (s.raiseFault v w).envBound = s.envBound := by
  unfold State.raiseFault; split <;> rfl
@[simp] theorem State.raiseFault_videoBound (v : Violation) (w : Word) (s : State) : (s.raiseFault v w).videoBound = s.videoBound := by
  unfold State.raiseFault; split <;> rfl
@[simp] theorem State.raiseFault_out (v : Violation) (w : Word) (s : State) : (s.raiseFault v w).out = s.out := by
  unfold State.raiseFault; split <;> rfl
@[simp] theorem State.raiseFault_stream (v : Violation) (w : Word) (s : State) : (s.raiseFault v w).stream = s.stream := by
  unfold State.raiseFault; split <;> rfl
@[simp] theorem State.raiseFault_turns (v : Violation) (w : Word) (s : State) : (s.raiseFault v w).turns = s.turns := by
  unfold State.raiseFault; split <;> rfl
@[simp] theorem State.raiseFault_openAnswers (v : Violation) (w : Word) (s : State) : (s.raiseFault v w).openAnswers = s.openAnswers := by
  unfold State.raiseFault; split <;> rfl
@[simp] theorem State.raiseFault_openDraws (v : Violation) (w : Word) (s : State) : (s.raiseFault v w).openDraws = s.openDraws := by
  unfold State.raiseFault; split <;> rfl

@[simp] theorem State.deliver_cfg (f : Frame) (s : State) : (s.deliver f).cfg = s.cfg := by
  unfold State.deliver; split <;> rfl
@[simp] theorem State.deliver_pos (f : Frame) (s : State) : (s.deliver f).pos = s.pos := by
  unfold State.deliver; split <;> rfl
@[simp] theorem State.deliver_lifecycle (f : Frame) (s : State) : (s.deliver f).lifecycle = s.lifecycle := by
  unfold State.deliver; split <;> rfl
@[simp] theorem State.deliver_fault (f : Frame) (s : State) : (s.deliver f).fault = s.fault := by
  unfold State.deliver; split <;> rfl
@[simp] theorem State.deliver_isPal (f : Frame) (s : State) : (s.deliver f).isPal = s.isPal := by
  unfold State.deliver; split <;> rfl
@[simp] theorem State.deliver_drawOffset (f : Frame) (s : State) : (s.deliver f).drawOffset = s.drawOffset := by
  unfold State.deliver; split <;> rfl
@[simp] theorem State.deliver_drawArea (f : Frame) (s : State) : (s.deliver f).drawArea = s.drawArea := by
  unfold State.deliver; split <;> rfl
@[simp] theorem State.deliver_displayMode (f : Frame) (s : State) : (s.deliver f).displayMode = s.displayMode := by
  unfold State.deliver; split <;> rfl
@[simp] theorem State.deliver_fb (f : Frame) (s : State) : (s.deliver f).fb = s.fb := by
  unfold State.deliver; split <;> rfl
@[simp] theorem State.deliver_present (f : Frame) (s : State) : (s.deliver f).present = s.present := by
  unfold State.deliver; split <;> rfl
@[simp] theorem State.deliver_presentHeld (f : Frame) (s : State) : (s.deliver f).presentHeld = (s.videoBound || s.presentHeld) := by
  unfold State.deliver; split <;> simp_all [State.emit]
@[simp] theorem State.deliver_envBound (f : Frame) (s : State) : (s.deliver f).envBound = s.envBound := by
  unfold State.deliver; split <;> rfl
@[simp] theorem State.deliver_videoBound (f : Frame) (s : State) : (s.deliver f).videoBound = s.videoBound := by
  unfold State.deliver; split <;> rfl
@[simp] theorem State.deliver_out (f : Frame) (s : State) : (s.deliver f).out = if s.videoBound then s.out ++ [.videoRefresh f] else s.out := by
  unfold State.deliver; split <;> simp_all [State.emit]
@[simp] theorem State.deliver_stream (f : Frame) (s : State) : (s.deliver f).stream = s.stream := by
  unfold State.deliver; split <;> rfl
@[simp] theorem State.deliver_turns (f : Frame) (s : State) : (s.deliver f).turns = s.turns := by
  unfold State.deliver; split <;> rfl
@[simp] theorem State.deliver_openAnswers (f : Frame) (s : State) : (s.deliver f).openAnswers = s.openAnswers := by
  unfold State.deliver; split <;> rfl
@[simp] theorem State.deliver_openDraws (f : Frame) (s : State) : (s.deliver f).openDraws = s.openDraws := by
  unfold State.deliver; split <;> rfl

end Sys2Proof.Machine
end

