-- ==== Sys2Proof/Laws/Memory.lean ====
section
/-! SUPPORT. The framebuffer's cell list: its canonical form is kept by every operation, equal reads mean equal lists, a
read after a write gives the value written and a write leaves every other cell alone. -/

namespace Sys2Proof.Machine

/-! ### One cell -/

theorem Memory.wfFrom_mono {bg : Cell} {lo lo' : Nat} (h : lo' ≤ lo) :
    ∀ {m : Memory}, Memory.wfFrom bg lo m = true → Memory.wfFrom bg lo' m = true
  | [], _ => rfl
  | (k, v) :: m, hm => by
    simp only [Memory.wfFrom, Bool.and_eq_true, decide_eq_true_eq] at hm ⊢
    exact ⟨⟨by omega, hm.1.2⟩, hm.2⟩

theorem Memory.read_below {bg : Cell} {lo a : Nat} (ha : a < lo) :
    ∀ {m : Memory}, Memory.wfFrom bg lo m = true → Memory.read bg m a = bg
  | [], _ => rfl
  | (k, v) :: m, hm => by
    simp only [Memory.wfFrom, Bool.and_eq_true, decide_eq_true_eq] at hm
    have hk : a ≠ k := by omega
    have hl : a < k := by omega
    simp [Memory.read, hk, hl]

theorem Memory.wfFrom_write {bg : Cell} {a : Nat} {v : Cell} :
    ∀ {lo : Nat} {m : Memory}, lo ≤ a → Memory.wfFrom bg lo m = true →
      Memory.wfFrom bg lo (Memory.write bg m a v) = true
  | lo, [], ha, _ => by
    by_cases hv : v = bg <;> simp [Memory.write, Memory.wfFrom, hv, ha]
  | lo, (k, w) :: m, ha, hm => by
    simp only [Memory.wfFrom, Bool.and_eq_true, decide_eq_true_eq] at hm
    obtain ⟨⟨hk, hw⟩, hm⟩ := hm
    unfold Memory.write
    split_ifs with h1 h2 h3 h4
    · simp [Memory.wfFrom, hk, hw, hm]
    · have : a + 1 ≤ k := h1
      simp [Memory.wfFrom, ha, h2, hw, hm, this]
    · exact Memory.wfFrom_mono (by omega) hm
    · subst h3; simp [Memory.wfFrom, ha, h4, hm]
    · simp only [Memory.wfFrom, Bool.and_eq_true, decide_eq_true_eq]
      exact ⟨⟨hk, hw⟩, Memory.wfFrom_write (by omega) hm⟩

/-- A write keeps the canonical form. -/
theorem Memory.wf_write {bg : Cell} {m : Memory} {a : Nat} {v : Cell} (h : Memory.wf bg m = true) :
    Memory.wf bg (Memory.write bg m a v) = true := Memory.wfFrom_write (Nat.zero_le a) h

theorem Memory.read_write_from {bg : Cell} {a b : Nat} {v : Cell} :
    ∀ {lo : Nat} {m : Memory}, Memory.wfFrom bg lo m = true →
      Memory.read bg (Memory.write bg m a v) b = if b = a then v else Memory.read bg m b
  | lo, [], _ => by
    by_cases hv : v = bg <;> by_cases hb : b = a <;> simp [Memory.write, Memory.read, hv, hb]
  | lo, (k, w) :: m, hm => by
    simp only [Memory.wfFrom, Bool.and_eq_true, decide_eq_true_eq] at hm
    obtain ⟨⟨hk, hw⟩, hm⟩ := hm
    rcases Nat.lt_trichotomy a k with hlt | rfl | hgt
    · -- the write lands before the head
      have hbelow : b < k → Memory.read bg ((k, w) :: m) b = bg := fun h => by
        simp [Memory.read, h, Nat.ne_of_lt h]
      by_cases hv : v = bg
      · simp only [Memory.write, if_pos hlt, if_pos hv]
        split_ifs with hb
        · subst hb; rw [hbelow hlt, hv]
        · rfl
      · simp only [Memory.write, if_pos hlt, if_neg hv]
        conv_lhs => unfold Memory.read
        split_ifs with hb hb'
        · rfl
        · exact (hbelow (Nat.lt_trans hb' hlt)).symm
        · rfl
    · -- the write replaces the head
      by_cases hv : v = bg
      · simp only [Memory.write, Nat.lt_irrefl, if_false, if_true, if_pos hv]
        split_ifs with hb
        · subst hb; rw [Memory.read_below (Nat.lt_succ_self _) hm, hv]
        · simp only [Memory.read, if_neg hb]
          split_ifs with hb'
          · exact Memory.read_below (Nat.lt_succ_of_lt hb') hm
          · rfl
      · simp only [Memory.write, Nat.lt_irrefl, if_false, if_true, if_neg hv, Memory.read]
        split_ifs <;> rfl
    · -- the write lands in the tail
      have h1 : ¬ a < k := by omega
      have h2 : ¬ a = k := by omega
      simp only [Memory.write, if_neg h1, if_neg h2, Memory.read]
      rw [Memory.read_write_from hm]
      split_ifs <;> first | rfl | omega

/-- A read after a write (R72, R73). -/
theorem Memory.read_write {bg : Cell} {m : Memory} {a b : Nat} {v : Cell} (h : Memory.wf bg m = true) :
    Memory.read bg (Memory.write bg m a v) b = if b = a then v else Memory.read bg m b := Memory.read_write_from h

theorem Memory.ext_from {bg : Cell} :
    ∀ {lo : Nat} {m n : Memory}, Memory.wfFrom bg lo m = true → Memory.wfFrom bg lo n = true →
      (∀ a, Memory.read bg m a = Memory.read bg n a) → m = n
  | _, [], [], _, _, _ => rfl
  | _, [], (k, v) :: n, _, hn, h => by
    simp only [Memory.wfFrom, Bool.and_eq_true, decide_eq_true_eq] at hn
    exact absurd (h k).symm (by simpa [Memory.read] using hn.1.2)
  | _, (k, v) :: m, [], hm, _, h => by
    simp only [Memory.wfFrom, Bool.and_eq_true, decide_eq_true_eq] at hm
    exact absurd (h k) (by simpa [Memory.read] using hm.1.2)
  | lo, (k, v) :: m, (l, w) :: n, hm, hn, h => by
    simp only [Memory.wfFrom, Bool.and_eq_true, decide_eq_true_eq] at hm hn
    have hkl : k = l := by
      rcases Nat.lt_trichotomy k l with hlt | heq | hgt
      · have := h k
        simp only [Memory.read, if_true, if_neg (Nat.ne_of_lt hlt), if_pos hlt] at this
        exact absurd this hm.1.2
      · exact heq
      · have := h l
        simp only [Memory.read, if_true, if_neg (Nat.ne_of_lt hgt), if_pos hgt] at this
        exact absurd this.symm hn.1.2
    subst hkl
    have hvw : v = w := by simpa [Memory.read] using h k
    subst hvw
    have hmn : m = n := by
      refine Memory.ext_from hm.2 hn.2 (fun a => ?_)
      rcases Nat.lt_or_ge a (k + 1) with ha | ha
      · rw [Memory.read_below ha hm.2, Memory.read_below ha hn.2]
      · have h1 : a ≠ k := by omega
        have h2 : ¬ a < k := by omega
        simpa [Memory.read, h1, h2] using h a
    rw [hmn]

/-- Canonical lists with equal reads are equal. -/
theorem Memory.ext_read {bg : Cell} {m n : Memory} (hm : Memory.wf bg m = true) (hn : Memory.wf bg n = true)
    (h : ∀ a, Memory.read bg m a = Memory.read bg n a) : m = n := Memory.ext_from hm hn h

theorem Memory.below_write {bg : Cell} {size a : Nat} {v : Cell} (ha : a < size) :
    ∀ {m : Memory}, Memory.below size m = true → Memory.below size (Memory.write bg m a v) = true
  | [], _ => by by_cases hv : v = bg <;> simp [Memory.write, Memory.below, hv, ha]
  | (k, w) :: m, hm => by
    have hm' : k < size ∧ Memory.below size m = true := by simpa [Memory.below] using hm
    unfold Memory.write
    split_ifs
    · exact hm
    · simpa [Memory.below] using ⟨ha, hm'.1, by simpa [Memory.below] using hm'.2⟩
    · exact hm'.2
    · simpa [Memory.below] using ⟨ha, by simpa [Memory.below] using hm'.2⟩
    · have := Memory.below_write (bg := bg) (v := v) ha hm'.2
      simpa [Memory.below] using ⟨hm'.1, by simpa [Memory.below] using this⟩

/-! ### Cells by coordinates -/

/-- Inside the framebuffer's columns, equal indexes mean equal coordinates (R71). -/
theorem cellIndex_inj {cfg : Config} {x y x' y' : Nat} (hx : x < cfg.fbW) (hx' : x' < cfg.fbW) :
    cellIndex cfg x y = cellIndex cfg x' y' ↔ x = x' ∧ y = y' := by
  unfold cellIndex
  constructor
  · intro h
    have hy : y = y' := by
      rcases Nat.lt_trichotomy y y' with hlt | heq | hgt
      · have : (y + 1) * cfg.fbW ≤ y' * cfg.fbW := Nat.mul_le_mul_right _ hlt
        rw [Nat.add_mul] at this; omega
      · exact heq
      · have : (y' + 1) * cfg.fbW ≤ y * cfg.fbW := Nat.mul_le_mul_right _ hgt
        rw [Nat.add_mul] at this; omega
    subst hy; exact ⟨by omega, rfl⟩
  · rintro ⟨rfl, rfl⟩; rfl

/-- An index of a cell of the framebuffer is below its size (R70, R71). -/
theorem cellIndex_lt {cfg : Config} {x y : Nat} (hx : x < cfg.fbW) (hy : y < cfg.fbH) :
    cellIndex cfg x y < cfg.fbW * cfg.fbH := by
  unfold cellIndex
  have : (y + 1) * cfg.fbW ≤ cfg.fbH * cfg.fbW := Nat.mul_le_mul_right _ hy
  rw [Nat.add_mul] at this
  rw [Nat.mul_comm cfg.fbW]; omega

/-! ### A sequence of writes -/

/-- A framebuffer write keeps the canonical form. -/
theorem fbWrite_wf {cfg : Config} {fb : Memory} {x y : Nat} {v : Cell} (h : Memory.wf cfg.background fb = true) :
    Memory.wf cfg.background (fbWrite cfg fb x y v) = true := Memory.wf_write h

theorem fbWriteAll_nil (cfg : Config) (fb : Memory) : fbWriteAll cfg fb [] = fb := rfl

theorem fbWriteAll_cons (cfg : Config) (fb : Memory) (w : (Nat × Nat) × Cell) (ws : List ((Nat × Nat) × Cell)) :
    fbWriteAll cfg fb (w :: ws) = fbWriteAll cfg (fbWrite cfg fb w.1.1 w.1.2 w.2) ws := rfl

/-- A sequence of writes keeps the canonical form. -/
theorem fbWriteAll_wf {cfg : Config} :
    ∀ {ws : List ((Nat × Nat) × Cell)} {fb : Memory}, Memory.wf cfg.background fb = true →
      Memory.wf cfg.background (fbWriteAll cfg fb ws) = true
  | [], _, h => h
  | w :: ws, fb, h => by
    rw [fbWriteAll_cons]
    exact fbWriteAll_wf (fbWrite_wf h)

/-- A sequence of writes inside the framebuffer stays inside it. -/
theorem fbWriteAll_below {cfg : Config} :
    ∀ {ws : List ((Nat × Nat) × Cell)} {fb : Memory}, (∀ w ∈ ws, w.1.1 < cfg.fbW ∧ w.1.2 < cfg.fbH) →
      Memory.below (cfg.fbW * cfg.fbH) fb = true →
      Memory.below (cfg.fbW * cfg.fbH) (fbWriteAll cfg fb ws) = true
  | [], _, _, h => h
  | w :: ws, fb, hw, h => by
    rw [fbWriteAll_cons]
    have h0 := hw w (by simp)
    exact fbWriteAll_below (fun u hu => hw u (by simp [hu])) (Memory.below_write (cellIndex_lt h0.1 h0.2) h)

/-- A cell that no write of the sequence names keeps its value. -/
theorem fbRead_writeAll_other {cfg : Config} {x y : Nat} (hx : x < cfg.fbW) :
    ∀ {ws : List ((Nat × Nat) × Cell)} {fb : Memory}, Memory.wf cfg.background fb = true →
      (∀ w ∈ ws, w.1.1 < cfg.fbW) → (∀ w ∈ ws, w.1 ≠ (x, y)) →
      fbRead cfg (fbWriteAll cfg fb ws) x y = fbRead cfg fb x y
  | [], _, _, _, _ => rfl
  | w :: ws, fb, h, hb, hn => by
    rw [fbWriteAll_cons, fbRead_writeAll_other hx (fbWrite_wf h) (fun u hu => hb u (by simp [hu]))
      (fun u hu => hn u (by simp [hu]))]
    unfold fbRead fbWrite
    rw [Memory.read_write h, if_neg]
    rw [cellIndex_inj hx (hb w (by simp))]
    rintro ⟨rfl, rfl⟩
    exact hn w (by simp) rfl

/-- Where every write's value is a function of its cell, a cell reads that value if it is written, its old one if not. -/
theorem fbRead_writeAll_map {cfg : Config} {x y : Nat} (hx : x < cfg.fbW) (f : Nat × Nat → Cell) :
    ∀ {cs : List (Nat × Nat)} {fb : Memory}, Memory.wf cfg.background fb = true → (∀ c ∈ cs, c.1 < cfg.fbW) →
      fbRead cfg (fbWriteAll cfg fb (cs.map (fun c => (c, f c)))) x y =
        if (x, y) ∈ cs then f (x, y) else fbRead cfg fb x y
  | [], _, _, _ => by simp [fbWriteAll_nil]
  | c :: cs, fb, h, hb => by
    rw [List.map_cons, fbWriteAll_cons,
      fbRead_writeAll_map hx f (fbWrite_wf h) (fun u hu => hb u (by simp [hu]))]
    by_cases hm : (x, y) ∈ cs
    · simp [hm]
    · simp only [hm, if_false, List.mem_cons, or_false]
      unfold fbRead fbWrite
      rw [Memory.read_write h]
      have hc : c.1 < cfg.fbW := hb c (by simp)
      by_cases he : (x, y) = c
      · subst he; simp
      · rw [if_neg, if_neg he]
        rw [cellIndex_inj hx hc]
        rintro ⟨h1, h2⟩; exact he (Prod.ext h1 h2)

/-- The cells of a display window. -/
theorem mem_windowCells {m : DisplayMode} {x y : Nat} :
    (x, y) ∈ windowCells m ↔
      m.dx.toNat ≤ x ∧ x < m.dx.toNat + m.dw.toNat ∧ m.dy.toNat ≤ y ∧ y < m.dy.toNat + m.dh.toNat := by
  simp only [windowCells, List.mem_flatMap, List.mem_range, List.mem_map, Prod.mk.injEq]
  constructor
  · rintro ⟨j, hj, i, hi, rfl, rfl⟩; omega
  · rintro ⟨h1, h2, h3, h4⟩
    exact ⟨y - m.dy.toNat, by omega, x - m.dx.toNat, by omega, by omega, by omega⟩

/-- The window of a display mode that passes the check lies inside the framebuffer. -/
theorem windowCells_in_fb {cfg : Config} {m : DisplayMode} (h : windowInFb cfg m = true) :
    ∀ c ∈ windowCells m, c.1 < cfg.fbW ∧ c.2 < cfg.fbH := by
  rintro ⟨x, y⟩ hc
  have hc := mem_windowCells.1 hc
  simp only [windowInFb, decide_eq_true_eq] at h
  constructor
  · show x < cfg.fbW; omega
  · show y < cfg.fbH; omega

/-- A display mode in range has its window inside the framebuffer (R173). -/
theorem windowInFb_of_inRange {cfg : Config} {m : DisplayMode} (h : modeInRange cfg m = true) :
    windowInFb cfg m = true := by
  simp only [modeInRange, windowInFb, decide_eq_true_eq] at h ⊢
  exact Or.inr (Or.inr ⟨h.2.2.1, h.2.2.2⟩)

/-- The reset framebuffer is canonical for every background. -/
theorem fbBlank_wf (bg : Cell) : Memory.wf bg fbBlank = true := rfl

/-- Every cell of a blank framebuffer reads `BACKGROUND` (R50). -/
@[simp] theorem fbRead_blank (cfg : Config) (x y : Nat) : fbRead cfg fbBlank x y = cfg.background := rfl

end Sys2Proof.Machine
end

