-- ==== Sys2Proof/Laws/Raster.lean ====
section
/-! SUPPORT. What the rasterizer's lists hold: integer ranges, boxes, covered points, and that every pixel of a triangle
lies in the clip region and so in the framebuffer (R193). -/

namespace Sys2Proof.Machine

@[simp] theorem mem_intRange {lo hi v : Int} : v ∈ intRange lo hi ↔ lo ≤ v ∧ v ≤ hi := by
  simp only [intRange, List.mem_map, List.mem_range]
  constructor
  · rintro ⟨k, hk, rfl⟩; omega
  · rintro ⟨h1, h2⟩; exact ⟨(v - lo).toNat, by omega, by omega⟩

@[simp] theorem mem_boxPoints {b : Box} {p : Point} :
    p ∈ boxPoints b ↔ b.xl ≤ p.x ∧ p.x ≤ b.xh ∧ b.yl ≤ p.y ∧ p.y ≤ b.yh := by
  simp only [boxPoints, List.mem_flatMap, List.mem_map, mem_intRange]
  constructor
  · rintro ⟨y, hy, x, hx, rfl⟩; exact ⟨hx.1, hx.2, hy.1, hy.2⟩
  · rintro ⟨h1, h2, h3, h4⟩; exact ⟨p.y, ⟨h3, h4⟩, p.x, ⟨h1, h2⟩, rfl⟩

theorem mem_coveredPoints {c : Clip} {t : Tri} {p : Point} :
    p ∈ coveredPoints c t ↔ p ∈ boxPoints (scanBox c t) ∧ covered t p = true := by
  simp [coveredPoints, List.mem_filter]

/-- A scanned point is in the clip region (R193, R194). -/
theorem scanned_in_clip {c : Clip} {t : Tri} {p : Point} (h : p ∈ boxPoints (scanBox c t)) :
    c.cx0 ≤ p.x ∧ p.x < c.cx1 ∧ c.cy0 ≤ p.y ∧ p.y < c.cy1 := by
  rw [mem_boxPoints] at h
  obtain ⟨h1, h2, h3, h4⟩ := h
  simp only [scanBox] at h1 h2 h3 h4
  omega

/-- A point of the clip region is a cell of the framebuffer (R193). -/
theorem clip_in_fb {cfg : Config} {a : DrawArea} {p : Point}
    (h : (clipRegion cfg a).cx0 ≤ p.x ∧ p.x < (clipRegion cfg a).cx1 ∧
      (clipRegion cfg a).cy0 ≤ p.y ∧ p.y < (clipRegion cfg a).cy1) :
    0 ≤ p.x ∧ p.x < cfg.fbW ∧ 0 ≤ p.y ∧ p.y < cfg.fbH := by
  simp only [clipRegion, unsignedHalf] at h
  omega

theorem mem_trianglePixels {cfg : Config} {o : DrawOffset} {a : DrawArea} {d24 d : Bool} {v0 v1 v2 : Vertex}
    {q : Point × Cell} :
    q ∈ trianglePixels cfg o a d24 v0 v1 v2 d ↔
      area (translatedTri o v0 v1 v2) ≠ 0 ∧
      q.1 ∈ coveredPoints (clipRegion cfg a) (normalise (translatedTri o v0 v1 v2)) ∧
      q.2 = shade (normalise (translatedTri o v0 v1 v2)) d24 d q.1 := by
  unfold trianglePixels
  split_ifs with h
  · simp [h]
  · simp only [List.mem_map, ne_eq, h, not_false_eq_true, true_and]
    constructor
    · rintro ⟨p, hp, rfl⟩; exact ⟨hp, rfl⟩
    · rintro ⟨hp, hq⟩; exact ⟨q.1, hp, by rw [← hq]⟩

/-- Every write of a triangle is inside the framebuffer (R72, R193). -/
theorem pixelWrites_in_fb {cfg : Config} {o : DrawOffset} {a : DrawArea} {d24 d : Bool} {v0 v1 v2 : Vertex} :
    ∀ w ∈ pixelWrites (trianglePixels cfg o a d24 v0 v1 v2 d), w.1.1 < cfg.fbW ∧ w.1.2 < cfg.fbH := by
  intro w hw
  simp only [pixelWrites, List.mem_map] at hw
  obtain ⟨q, hq, rfl⟩ := hw
  have hp := (mem_coveredPoints.1 (mem_trianglePixels.1 hq).2.1).1
  have := clip_in_fb (scanned_in_clip hp)
  simp only
  omega

/-- PUSH_TRIANGLE's writes keep the framebuffer's canonical form. -/
theorem State.draw_wf {s : State} {v0 v1 v2 : Vertex} {d : Bool} (h : Memory.wf s.cfg.background s.fb = true) :
    Memory.wf s.cfg.background (s.draw v0 v1 v2 d).fb = true := fbWriteAll_wf h

/-- PUSH_TRIANGLE's writes stay inside the framebuffer (R193). -/
theorem State.draw_below {s : State} {v0 v1 v2 : Vertex} {d : Bool}
    (h : Memory.below (s.cfg.fbW * s.cfg.fbH) s.fb = true) :
    Memory.below (s.cfg.fbW * s.cfg.fbH) (s.draw v0 v1 v2 d).fb = true := fbWriteAll_below pixelWrites_in_fb h

/-- Clearing the window keeps the framebuffer's canonical form. -/
theorem State.clearWindow_wf {s : State} (h : Memory.wf s.cfg.background s.fb = true) :
    Memory.wf s.cfg.background s.clearWindow.fb = true := fbWriteAll_wf h

/-- Clearing a window inside the framebuffer stays inside it. -/
theorem State.clearWindow_below {s : State} (hw : windowInFb s.cfg s.displayMode = true)
    (h : Memory.below (s.cfg.fbW * s.cfg.fbH) s.fb = true) :
    Memory.below (s.cfg.fbW * s.cfg.fbH) s.clearWindow.fb = true := by
  refine fbWriteAll_below (fun w hm => ?_) h
  obtain ⟨c, hc, rfl⟩ := List.mem_map.1 hm
  exact windowCells_in_fb hw c hc

end Sys2Proof.Machine
end

