-- ==== Sys2Proof/Laws/Exec.lean ====
section
/-! SUPPORT. What an operation, a command and a step can do, said once: the legality guard, the effect of each command,
and the cases of a step. Proofs cite these instead of unfolding the machine. -/

namespace Sys2Proof.Machine

/-! ### The legality guard -/

theorem guarded_ok {i : Instr} {s : State} {body : State → Host.Outcome State Fault Refusal}
    (h : legality s.cfg.strictSetters i s.lifecycle = none) : guarded i s body = body s := by
  simp [guarded, h]

theorem guarded_violation {i : Instr} {s : State} {v : Violation} {body : State → Host.Outcome State Fault Refusal}
    (h : legality s.cfg.strictSetters i s.lifecycle = some v) :
    guarded i s body = .next (s.raiseFault v (headerWord i)) := by
  simp [guarded, h]

/-- What a guarded command can answer as a next state. -/
theorem guarded_next {i : Instr} {s t : State} {body : State → Host.Outcome State Fault Refusal}
    (h : guarded i s body = .next t) :
    (∃ v, legality s.cfg.strictSetters i s.lifecycle = some v ∧ t = s.raiseFault v (headerWord i)) ∨
      (legality s.cfg.strictSetters i s.lifecycle = none ∧ body s = .next t) := by
  cases hl : legality s.cfg.strictSetters i s.lifecycle with
  | none => rw [guarded_ok hl] at h; exact Or.inr ⟨rfl, h⟩
  | some v => rw [guarded_violation hl] at h; cases h; exact Or.inl ⟨v, rfl, rfl⟩

/-- Raising a fault where none is latched (R270). -/
theorem State.raiseFault_of_clear {s : State} (h : s.fault.code = 0#3) (v : Violation) (w : Word) :
    s.raiseFault v w = { s with fault := ⟨v.code, w, s.pos⟩ } := by
  simp [State.raiseFault, h]

/-- Raising a fault where one is latched changes nothing (R270). -/
theorem State.raiseFault_of_latched {s : State} (h : s.fault.code ≠ 0#3) (v : Violation) (w : Word) :
    s.raiseFault v w = s := by
  simp [State.raiseFault, h]

/-- No violation's code is 0 or 7 (R271). -/
theorem Violation.code_range (v : Violation) : v.code ≠ 0#3 ∧ v.code ≠ 7#3 := by
  cases v <;> decide

/-! ### Commands -/

/-- The effect of a command that the legality table lets through, one case per way it can end (R140 to R147, R170 to
R172, R190, R241 to R244). -/
inductive Effect (s : State) : Instr → State → Prop where
  | opened (p : Bool) (ok : s.openOk = true) :
      Effect s (.openCore p)
        (State.complete (.openCore p) (State.emit (.openResult true) (State.takeDraw (s.initialise p))))
  | openFailed (p : Bool) (ok : s.openOk = false) :
      Effect s (.openCore p) (State.complete (.openCore p) (State.emit (.openResult false) (State.takeDraw s)))
  | closed : Effect s .closeCore (State.complete .closeCore s.shut)
  | reported : Effect s .getSystemAvInfo (State.complete .getSystemAvInfo (s.emit (.avInfo (avInfo s))))
  | refreshed : Effect s .refreshVariables (State.complete .refreshVariables s)
  | envRegistered : Effect s .registerEnvCallback (State.complete .registerEnvCallback { s with envBound := true })
  | videoRegistered :
      Effect s .registerVideoCallback (State.complete .registerVideoCallback { s with videoBound := true })
  | held (h : s.presentHeld = true) : Effect s .prepareFrame s
  | prepared (h : s.presentHeld = false) (c : s.cfg.clearOnPrepare = false) :
      Effect s .prepareFrame (State.complete .prepareFrame s.enterFrame)
  | preparedClear (h : s.presentHeld = false) (c : s.cfg.clearOnPrepare = true)
      (w : windowInFb s.cfg s.displayMode = true) :
      Effect s .prepareFrame
        (State.complete .prepareFrame (State.clearWindow s.enterFrame))
  | finalized (w : windowInFb s.cfg s.displayMode = true) :
      Effect s .finalizeFrame
        (State.complete .finalizeFrame
          (State.deliver (snapshot s) (State.endFrame (snapshot s) s)))
  | offsetSet (x y : Half) :
      Effect s (.setDrawOffset x y) (State.complete (.setDrawOffset x y) { s with drawOffset := ⟨x, y⟩ })
  | areaSet (x y w h : Half) :
      Effect s (.setDrawArea x y w h) (State.complete (.setDrawArea x y w h) { s with drawArea := ⟨x, y, w, h⟩ })
  | modeSet (x y w h : Half) (d : Bool) (r : modeInRange s.cfg ⟨x, y, w, h, d⟩ = true) :
      Effect s (.setDisplayMode x y w h d)
        (State.complete (.setDisplayMode x y w h d) { s with displayMode := ⟨x, y, w, h, d⟩ })
  | modeRefused (x y w h : Half) (d : Bool) (r : modeInRange s.cfg ⟨x, y, w, h, d⟩ = false) :
      Effect s (.setDisplayMode x y w h d)
        (s.raiseFault .displayModeRange (headerWord (.setDisplayMode x y w h d)))
  | drawn (v0 v1 v2 : Vertex) (d : Bool) :
      Effect s (.pushTriangle v0 v1 v2 d)
        (State.complete (.pushTriangle v0 v1 v2 d) (s.draw v0 v1 v2 d))

/-- Everything a command can do: raise the legality table's fault, or have its effect. -/
theorem exec_next {i : Instr} {s t : State} (h : exec i s = .next t) :
    (∃ v, legality s.cfg.strictSetters i s.lifecycle = some v ∧ t = s.raiseFault v (headerWord i)) ∨
      (legality s.cfg.strictSetters i s.lifecycle = none ∧ Effect s i t) := by
  have key : ∀ {body : State → Host.Outcome State Fault Refusal}, guarded i s body = .next t →
      (body s = .next t → Effect s i t) →
      (∃ v, legality s.cfg.strictSetters i s.lifecycle = some v ∧ t = s.raiseFault v (headerWord i)) ∨
        (legality s.cfg.strictSetters i s.lifecycle = none ∧ Effect s i t) := by
    intro body hg hb
    rcases guarded_next hg with hv | ⟨hl, hn⟩
    · exact Or.inl hv
    · exact Or.inr ⟨hl, hb hn⟩
  cases i with
  | openCore p =>
    simp only [exec, execOpenCore] at h
    refine key h fun hn => ?_
    cases hok : s.openOk
    · simp only [hok] at hn; cases hn; exact .openFailed p hok
    · simp only [hok] at hn; cases hn; exact .opened p hok
  | closeCore =>
    simp only [exec, execCloseCore] at h
    exact key h fun hn => by cases hn; exact .closed
  | getSystemAvInfo =>
    simp only [exec, execGetSystemAvInfo] at h
    exact key h fun hn => by cases hn; exact .reported
  | refreshVariables =>
    simp only [exec, execRefreshVariables] at h
    exact key h fun hn => by cases hn; exact .refreshed
  | registerEnvCallback =>
    simp only [exec, execRegisterEnvCallback] at h
    exact key h fun hn => by cases hn; exact .envRegistered
  | registerVideoCallback =>
    simp only [exec, execRegisterVideoCallback] at h
    exact key h fun hn => by cases hn; exact .videoRegistered
  | prepareFrame =>
    simp only [exec, execPrepareFrame] at h
    refine key h fun hn => ?_
    cases hh : s.presentHeld
    · cases hc : s.cfg.clearOnPrepare
      · simp only [hh, hc] at hn; cases hn; exact .prepared hh hc
      · cases hw : windowInFb s.cfg s.displayMode
        · simp [hh, hc, hw] at hn
        · simp only [hh, hc, hw] at hn; cases hn; exact .preparedClear hh hc hw
    · simp only [hh] at hn; cases hn; exact .held hh
  | finalizeFrame =>
    simp only [exec, execFinalizeFrame] at h
    refine key h fun hn => ?_
    cases hw : windowInFb s.cfg s.displayMode
    · simp [hw] at hn
    · simp only [hw] at hn; cases hn; exact .finalized hw
  | setDrawOffset x y =>
    simp only [exec, execSetDrawOffset] at h
    exact key h fun hn => by cases hn; exact .offsetSet x y
  | setDrawArea x y w hh =>
    simp only [exec, execSetDrawArea] at h
    exact key h fun hn => by cases hn; exact .areaSet x y w hh
  | setDisplayMode x y w hh d =>
    simp only [exec, execSetDisplayMode] at h
    refine key h fun hn => ?_
    cases hr : modeInRange s.cfg ⟨x, y, w, hh, d⟩
    · simp only [hr] at hn; cases hn; exact .modeRefused x y w hh d hr
    · simp only [hr] at hn; cases hn; exact .modeSet x y w hh d hr
  | pushTriangle v0 v1 v2 d =>
    simp only [exec, execPushTriangle] at h
    exact key h fun hn => by cases hn; exact .drawn v0 v1 v2 d

/-- A command that the legality table forbids latches that fault and changes nothing else (R248, R270). -/
theorem exec_violation {i : Instr} {s : State} {v : Violation} (hf : s.fault.code = 0#3)
    (h : legality s.cfg.strictSetters i s.lifecycle = some v) :
    exec i s = .next { s with fault := ⟨v.code, headerWord i, s.pos⟩ } := by
  rw [← State.raiseFault_of_clear hf]
  cases i <;>
    simp only [exec, execOpenCore, execCloseCore, execGetSystemAvInfo, execRefreshVariables, execRegisterEnvCallback, execRegisterVideoCallback,
      execPrepareFrame, execFinalizeFrame, execSetDrawOffset, execSetDrawArea, execSetDisplayMode, execPushTriangle] <;>
    exact guarded_violation h

/-- How a command's effect moves `POS` and `FAULT`: past the packet, at a fault, or held (R31). -/
theorem Effect.pos_fault {s t : State} {i : Instr} (h : Effect s i t) :
    (t.pos = s.pos + packetLen i ∧ t.fault = s.fault) ∨
    t = s.raiseFault .displayModeRange (headerWord i) ∨
    (t = s ∧ i = .prepareFrame ∧ s.presentHeld = true) := by
  cases h <;> first
    | exact Or.inl ⟨rfl, rfl⟩
    | exact Or.inr (Or.inl rfl)
    | exact Or.inr (Or.inr ⟨rfl, rfl, by assumption⟩)
    | exact Or.inl (by simp [State.endFrame])

/-! ### Steps -/

/-- On the command processor's turn a step is `coreStep` with the turn taken. -/
theorem step_of_coreTurn {s : State} (h : s.CoreTurn) : step s = coreStep s.tookTurn := by
  unfold step turnStep
  rcases h with h | h
  · have : s.tookTurn = s := by cases s; simp_all [State.tookTurn]
    rw [h, this]
  · cases ht : s.turns with
    | nil => rw [ht] at h; cases h
    | cons a ts => rw [ht] at h; cases h; simp [State.tookTurn, ht]

/-- Everything the command processor's turn can do. -/
theorem coreStep_next {s t : State} (h : coreStep s = .next t) :
    (s.fault.code ≠ 0#3 ∧ t = s) ∨
    (s.fault.code = 0#3 ∧ decode s.stream s.pos = .endOfStream ∧ t = s) ∨
    (s.fault.code = 0#3 ∧ decode s.stream s.pos = .incomplete ∧ t = s) ∨
    (∃ w0, s.fault.code = 0#3 ∧ decode s.stream s.pos = .illegal w0 ∧ t = s.raiseFault .illegalCommand w0) ∨
    (∃ i, s.fault.code = 0#3 ∧ decode s.stream s.pos = .command i ∧ exec i s = .next t) := by
  unfold coreStep at h
  by_cases hc : s.fault.code = 0#3
  · rw [if_pos hc] at h
    cases hd : decode s.stream s.pos with
    | endOfStream => rw [hd] at h; cases h; exact Or.inr (Or.inl ⟨hc, rfl, rfl⟩)
    | incomplete => rw [hd] at h; cases h; exact Or.inr (Or.inr (Or.inl ⟨hc, rfl, rfl⟩))
    | illegal w0 => rw [hd] at h; cases h; exact Or.inr (Or.inr (Or.inr (Or.inl ⟨w0, hc, rfl, rfl⟩)))
    | command i => rw [hd] at h; exact Or.inr (Or.inr (Or.inr (Or.inr ⟨i, hc, rfl, h⟩)))
  · rw [if_neg hc] at h; cases h; exact Or.inl ⟨hc, rfl⟩

/-- Everything a step can do: a turn of the command processor, a release, or a word sent. -/
theorem step_next {s t : State} (h : step s = .next t) :
    (s.CoreTurn ∧ coreStep s.tookTurn = .next t) ∨
    (s.turns.head? = some .release ∧ t = s.tookTurn.releaseFrame) ∨
    (∃ w, s.turns.head? = some (.send w) ∧ t = s.tookTurn.sendWord w) := by
  unfold step turnStep at h
  cases ht : s.turns with
  | nil =>
    rw [ht] at h
    have : s.tookTurn = s := by cases s; simp_all [State.tookTurn]
    exact Or.inl ⟨Or.inl ht, by rw [this]; exact h⟩
  | cons a ts =>
    have htt : { s with turns := ts } = s.tookTurn := by simp [State.tookTurn, ht]
    rw [ht] at h
    cases a with
    | core => exact Or.inl ⟨Or.inr (by rw [ht]; rfl), by rw [← htt]; exact h⟩
    | release => cases h; exact Or.inr (Or.inl ⟨rfl, by rw [← htt]⟩)
    | send w => cases h; exact Or.inr (Or.inr ⟨w, rfl, by rw [← htt]⟩)

/-! ### Runs -/

theorem coreRun_zero (M : Host.Core) (s : M.State) : Host.Core.run M 0 s = .next s := by
  rw [Host.Core.run]

theorem coreRun_next (M : Host.Core) (k : Nat) {s t : M.State} (h : M.step s = .next t) :
    Host.Core.run M (k + 1) s = Host.Core.run M k t := by
  rw [Host.Core.run, h]

theorem coreRun_fault (M : Host.Core) (k : Nat) {s : M.State} {r : M.Fault} (h : M.step s = .fault r) :
    Host.Core.run M (k + 1) s = .fault r := by
  rw [Host.Core.run, h]

theorem coreRun_refused (M : Host.Core) (k : Nat) {s : M.State} {r : M.Refusal} (h : M.step s = .refused r) :
    Host.Core.run M (k + 1) s = .refused r := by
  rw [Host.Core.run, h]

/-- No step: the state itself. -/
theorem run_zero (s : State) : Host.Core.run core 0 s = .next s := coreRun_zero core s

/-- A run whose first step goes on. -/
theorem run_next (k : Nat) {s t : State} (h : step s = .next t) :
    Host.Core.run core (k + 1) s = Host.Core.run core k t := coreRun_next core k h

/-- A run whose first step faults. -/
theorem run_fault (k : Nat) {s : State} {r : Fault} (h : step s = .fault r) :
    Host.Core.run core (k + 1) s = .fault r := coreRun_fault core k h

/-- A run whose first step is refused. -/
theorem run_refused (k : Nat) {s : State} {r : Refusal} (h : step s = .refused r) :
    Host.Core.run core (k + 1) s = .refused r := coreRun_refused core k h

end Sys2Proof.Machine
end

