-- ==== Sys2Proof/Laws/PerInstr.lean ====
section
/-! SUPPORT. Families of statements made per instruction. `EncodedPacket`: a command's packet is well formed (R100, R101, R107 to
R109) and has the length of its opcode (R103). -/

namespace Sys2Proof.Laws.EncodedPacket

open Sys2Proof

def Statement (i : Instr) : Prop :=
  packetWellFormed (encode i) = true ∧ (encode i).length = packetLen i

/-- A packet is well formed once its header's row and its length are known. -/
theorem of_header {i : Instr} {w : Word} {r : OpRow} (hw : headerWord i = w) (hr : headerRow w = some r)
    (hl : (argWords i).length + 1 = r.len) : packetWellFormed (encode i) = true := by
  subst hw
  simp [packetWellFormed, encode, hr, hl]

theorem openCore (isPal : Bool) : Statement (.openCore isPal) := by
  cases isPal
  · exact ⟨of_header (w := 0x01000000) (r := ⟨0x01, 1, true⟩) (by simp) (by decide) rfl, rfl⟩
  · exact ⟨of_header (w := 0x01000001) (r := ⟨0x01, 1, true⟩) (by simp) (by decide) rfl, rfl⟩

theorem closeCore : Statement .closeCore :=
  ⟨of_header (w := 0x02000000) (r := ⟨0x02, 1, false⟩) (by simp) (by decide) rfl, rfl⟩

theorem getSystemAvInfo : Statement .getSystemAvInfo :=
  ⟨of_header (w := 0x03000000) (r := ⟨0x03, 1, false⟩) (by simp) (by decide) rfl, rfl⟩

theorem refreshVariables : Statement .refreshVariables :=
  ⟨of_header (w := 0x04000000) (r := ⟨0x04, 1, false⟩) (by simp) (by decide) rfl, rfl⟩

theorem registerEnvCallback : Statement .registerEnvCallback :=
  ⟨of_header (w := 0x05000000) (r := ⟨0x05, 1, false⟩) (by simp) (by decide) rfl, rfl⟩

theorem registerVideoCallback : Statement .registerVideoCallback :=
  ⟨of_header (w := 0x06000000) (r := ⟨0x06, 1, false⟩) (by simp) (by decide) rfl, rfl⟩

theorem prepareFrame : Statement .prepareFrame :=
  ⟨of_header (w := 0x08000000) (r := ⟨0x08, 1, false⟩) (by simp) (by decide) rfl, rfl⟩

theorem finalizeFrame : Statement .finalizeFrame :=
  ⟨of_header (w := 0x09000000) (r := ⟨0x09, 1, false⟩) (by simp) (by decide) rfl, rfl⟩

theorem setDrawOffset (x y : Half) : Statement (.setDrawOffset x y) :=
  ⟨of_header (w := 0x10000000) (r := ⟨0x10, 2, false⟩) (by simp) (by decide) rfl, rfl⟩

theorem setDrawArea (x y w h : Half) : Statement (.setDrawArea x y w h) :=
  ⟨of_header (w := 0x11000000) (r := ⟨0x11, 3, false⟩) (by simp) (by decide) rfl, rfl⟩

theorem setDisplayMode (x y w h : Half) (d24 : Bool) : Statement (.setDisplayMode x y w h d24) := by
  cases d24
  · exact ⟨of_header (w := 0x12000000) (r := ⟨0x12, 3, true⟩) (by simp) (by decide) rfl, rfl⟩
  · exact ⟨of_header (w := 0x12000001) (r := ⟨0x12, 3, true⟩) (by simp) (by decide) rfl, rfl⟩

theorem pushTriangle (v0 v1 v2 : Vertex) (dither : Bool) : Statement (.pushTriangle v0 v1 v2 dither) := by
  cases dither
  · exact ⟨of_header (w := 0x20000000) (r := ⟨0x20, 7, true⟩) (by simp) (by decide) rfl, rfl⟩
  · exact ⟨of_header (w := 0x20000001) (r := ⟨0x20, 7, true⟩) (by simp) (by decide) rfl, rfl⟩

end Sys2Proof.Laws.EncodedPacket
end

