-- ==== Sys2Proof/Tests/Slice0.lean ====
section
/-! SUPPORT. Tests of the model on fixed values: the vectors of 95_test_vectors.md (named in each docstring), the packets that
`packetWellFormed` refuses, and for every obligation with hypotheses a witness that meets them. -/

-- The theorems below are elaborated one after another: each kernel check would otherwise hold a thread of its own.
set_option Elab.async false

open Sys2Proof Sys2Proof.Machine

namespace Sys2Proof.Tests

/-! ### Helpers -/

/-- The defaults of R6 with the values that P5 takes for the four OPEN parameters. -/
def specCfg : Config :=
  { Config.defaults with fpsMhzNtsc := 59940, fpsMhzPal := 50000, linesNtsc := 263, linesPal := 314 }

/-- A small legal configuration: an 8 x 8 framebuffer, a 4 x 4 default window. -/
def smallCfg : Config := { specCfg with fbW := 8, fbH := 8, defaultDisplayMode := ⟨0, 0, 4, 4, false⟩ }

/-- A state in a lifecycle state with a stream at `POS` = 0; the environment will answer yes to the next OPEN. -/
def at' (cfg : Config) (l : Lifecycle) (ws : List Word) : State :=
  { State.boot cfg ws [] [true] with lifecycle := l }

/-- The small machine in a frame, with the whole framebuffer as its draw area. -/
def inFrame : State := { at' smallCfg .inFrame [] with drawArea := ⟨0, 0, 8, 8⟩ }

/-- The small machine before OPEN. -/
def shut : State := at' smallCfg .closed []

/-- The small machine in Idle, with `CLEAR_ON_PREPARE`. -/
def clearing : State := at' { smallCfg with clearOnPrepare := true } .idle []

/-- A state whose frame is held, with PREPARE_FRAME at the head of the stream. -/
def heldState : State :=
  { at' smallCfg .idle [0x08000000] with
    present := some ⟨1, 1, false, [[5]]⟩, presentHeld := true, videoBound := true }

/-- A fault-latched state. -/
def latched : State := { at' smallCfg .idle [0x08000000] with fault := ⟨4, 0x20000000, 0⟩, presentHeld := true }

/-- Whether an outcome is a next state with a property. -/
def after (o : Host.Outcome State Fault Refusal) (p : State → Bool) : Bool :=
  match o with
  | .next t => p t
  | .fault _ => false
  | .refused _ => false

/-- The triangle of L1-4 instance 1, T_a. -/
def triA0 : Vertex := ⟨0, 0, 0x00FF0000⟩
def triA1 : Vertex := ⟨4, 0, 0x00FF0000⟩
def triA2 : Vertex := ⟨0, 4, 0x00FF0000⟩

/-- T_a as a translated triangle. -/
def triA : Tri := translatedTri ⟨0, 0⟩ triA0 triA1 triA2

/-- T_a's corners. -/
def ptO : Point := ⟨0, 0⟩
def ptE : Point := ⟨4, 0⟩
def ptS : Point := ⟨0, 4⟩

/-! ### Decoding, from words written out in the spec (V-E1 to V-E16, V-E22 to V-E28) -/

theorem test_decode_open : decode [0x01000000, 0x01000001] 0 = .command (.openCore false) := by decide
/-- V-E2 -/
theorem test_decode_open_pal : decode [0x01000000, 0x01000001] 1 = .command (.openCore true) := by decide
theorem test_decode_close : decode [0x02000000] 0 = .command .closeCore := by decide
theorem test_decode_av_info : decode [0x03000000] 0 = .command .getSystemAvInfo := by decide
theorem test_decode_refresh : decode [0x04000000] 0 = .command .refreshVariables := by decide
theorem test_decode_register_env : decode [0x05000000] 0 = .command .registerEnvCallback := by decide
theorem test_decode_register_video : decode [0x06000000] 0 = .command .registerVideoCallback := by decide
theorem test_decode_prepare : decode [0x08000000] 0 = .command .prepareFrame := by decide
theorem test_decode_finalize : decode [0x09000000] 0 = .command .finalizeFrame := by decide
/-- V-E10 -/
theorem test_decode_draw_offset :
    decode [0x10000000, 0x0005FFFE] 0 = .command (.setDrawOffset (BitVec.ofInt 16 (-2)) 5) := by decide
/-- V-E12 -/
theorem test_decode_draw_area :
    decode [0x11000000, 0x00000001, 0x00030006] 0 = .command (.setDrawArea 1 0 6 3) := by decide
/-- V-E13 -/
theorem test_decode_display_mode :
    decode [0x12000001, 0x00000000, 0x01E00280] 0 = .command (.setDisplayMode 0 0 640 480 true) := by decide
/-- V-E15 -/
theorem test_decode_triangle :
    decode [0x20000000, 0, 0x00FF0000, 0x0000003F, 0x0000FF00, 0x003F0000, 0x000000FF] 0 =
      .command (.pushTriangle ⟨0, 0, 0x00FF0000⟩ ⟨63, 0, 0x0000FF00⟩ ⟨0, 63, 0x000000FF⟩ false) := by decide
theorem test_decode_triangle_dither : decodeTableWord 224 0x20000001 =
    some (.pushTriangle ⟨0, 0, 0⟩ ⟨0, 0, 0⟩ ⟨0, 0, 0⟩ true) := by decide
/-- V-E22 to V-E26 -/
theorem test_decode_illegal :
    decode [0x00000000] 0 = .illegal 0x00000000 ∧ decode [0x07000000] 0 = .illegal 0x07000000 ∧
    decode [0x02000001] 0 = .illegal 0x02000001 ∧ decode [0x01000002] 0 = .illegal 0x01000002 ∧
    decode [0x20000002] 0 = .illegal 0x20000002 := by decide
/-- V-E28 -/
theorem test_decode_incomplete : decode [0x01000000, 0x10000000] 1 = .incomplete := by decide

/-! ### Ill-formed packets, one per check of `packetWellFormed` -/

theorem test_illformed_empty : packetWellFormed [] = false := by decide
theorem test_illformed_opcode : packetWellFormed [0x0A000000] = false := by decide
theorem test_illformed_rsv : packetWellFormed [0x01000002] = false := by decide
theorem test_illformed_rsv_top : packetWellFormed [0x01800000] = false := by decide
theorem test_illformed_flag : packetWellFormed [0x02000001] = false := by decide
theorem test_illformed_short : packetWellFormed [0x10000000] = false := by decide
theorem test_illformed_long : packetWellFormed [0x10000000, 0, 0] = false := by decide
theorem test_wellformed : packetWellFormed [0x12000001, 0, 0x01E00280] = true := by decide

/-! ### Assembler syntax (V-E2, V-E11, V-E14, V-E16) -/

theorem test_asm_open : assemblePacket "OPEN pal" = some [0x01000001] := by decide +kernel
theorem test_asm_draw_offset :
    assemblePacket "SET_DRAW_OFFSET -1, -32768 ; x" = some [0x10000000, 0x8000FFFF] := by decide +kernel
theorem test_asm_display_mode :
    assemblePacket "SET_DISPLAY_MODE 1000, 0, 24, 512, 24" = some [0x12000001, 0x000003E8, 0x02000018] := by
  decide +kernel
theorem test_asm_triangle :
    assemblePacket "PUSH_TRIANGLE (-2, -1, 0xFF0000), (10, -1, 0xFF0000), (-2, 11, 0xFF0000)" =
      some [0x20000000, 0xFFFFFFFE, 0x00FF0000, 0xFFFF000A, 0x00FF0000, 0x000BFFFE, 0x00FF0000] := by decide +kernel

/-! ### One step each (95_test_vectors.md) -/

/-- V-T2 -/
theorem test_open_succeeds :
    after (step (at' specCfg .closed [0x01000001])) (fun t => decide (t.lifecycle = .idle ∧ t.isPal = true ∧
      t.displayMode = ⟨0, 0, 640, 480, false⟩ ∧ t.out = [.openResult true] ∧ t.pos = 1)) = true := by decide +kernel

/-- V-T3, its OPEN -/
theorem test_open_fails :
    after (step { at' specCfg .closed [0x01000000] with openAnswers := [false] })
      (fun t => decide (t.lifecycle = .closed ∧ t.out = [.openResult false] ∧ t.pos = 1)) = true := by decide +kernel

/-- V-T5, its CLOSE -/
theorem test_close_in_idle :
    after (step (at' specCfg .idle [0x02000000]))
      (fun t => decide (t.lifecycle = .closed ∧ t.present = none ∧ t.pos = 1 ∧ t.fault = ⟨0, 0, 0⟩)) = true := by
  decide +kernel

/-- V-T9 -/
theorem test_close_in_closed :
    after (step (at' specCfg .closed [0x02000000]))
      (fun t => decide (t.fault = ⟨2, 0x02000000, 0⟩ ∧ t.pos = 0)) = true := by decide +kernel

/-- V-T13: the words of the record for PAL and the window (16, 8, 320, 240) at 24 bits -/
theorem test_av_info_words :
    after (step { at' specCfg .idle [0x03000000] with isPal := true, displayMode := ⟨16, 8, 320, 240, true⟩ })
      (fun t => decide (t.out.map eventWords =
        [[0x00F00140, 0x02000400, 0x00030004, 0x0000C350, 0x013A0003]])) = true := by decide +kernel

/-- V-T7, its REFRESH_VARIABLES: nothing but `POS` -/
theorem test_refresh_changes_nothing :
    after (step (at' specCfg .idle [0x04000000]))
      (fun t => decide (t = { at' specCfg .idle [0x04000000] with pos := 1 })) = true := by decide +kernel

/-- V-T7, its REGISTER_* in Closed -/
theorem test_register_env_in_closed :
    after (step (at' specCfg .closed [0x05000000]))
      (fun t => decide (t.envBound = true ∧ t.videoBound = false ∧ t.pos = 1)) = true := by decide +kernel

theorem test_register_video_in_closed :
    after (step (at' specCfg .closed [0x06000000]))
      (fun t => decide (t.envBound = false ∧ t.videoBound = true ∧ t.pos = 1)) = true := by decide +kernel

/-- V-DS2, legal in Idle -/
theorem test_draw_offset_in_idle :
    after (step (at' specCfg .idle [0x10000000, 0x8000FFFF]))
      (fun t => decide (t.drawOffset.ox.toInt = -1 ∧ t.drawOffset.oy.toInt = -32768 ∧ t.pos = 2)) = true := by
  decide +kernel

/-- V-DS9 -/
theorem test_draw_offset_strict :
    after (step (at' { specCfg with strictSetters := true } .idle [0x10000000, 0x00010001]))
      (fun t => decide (t.fault = ⟨4, 0x10000000, 0⟩ ∧ t.drawOffset = ⟨0, 0⟩)) = true := by decide +kernel

/-- V-E19, V-E20 in use -/
theorem test_draw_area_unchecked :
    after (step (at' specCfg .idle [0x11000000, 0xFFFFFFFF, 0x00010001]))
      (fun t => decide (t.drawArea = ⟨65535, 65535, 1, 1⟩ ∧ t.pos = 3 ∧ t.fault.code = 0#3)) = true := by
  decide +kernel

/-- V-DS4, at the edge of the range -/
theorem test_display_mode_fits :
    after (step (at' specCfg .idle [0x12000001, 0x000003E8, 0x02000018]))
      (fun t => decide (t.displayMode = ⟨1000, 0, 24, 512, true⟩ ∧ t.pos = 3)) = true := by decide +kernel

/-- V-DS7, sums without wrap -/
theorem test_display_mode_range :
    after (step (at' specCfg .idle [0x12000000, 0x0000FFFF, 0x00010002]))
      (fun t => decide (t.fault = ⟨6, 0x12000000, 0⟩ ∧ t.displayMode = ⟨0, 0, 640, 480, false⟩)) = true := by
  decide +kernel

/-- V-L2, its second PREPARE_FRAME -/
theorem test_prepare_twice :
    after (step (at' specCfg .inFrame [0x08000000]))
      (fun t => decide (t.fault = ⟨5, 0x08000000, 0⟩ ∧ t.lifecycle = .inFrame)) = true := by decide +kernel

/-- V-L7: held, no step -/
theorem test_prepare_held : after (step heldState) (fun t => decide (t = heldState)) = true := by decide +kernel

/-- V-L6 on a 1 x 2 window: the snapshot, with no video sink -/
theorem test_finalize_without_sink :
    after (step { at' smallCfg .inFrame [0x09000000] with displayMode := ⟨1, 0, 1, 2, false⟩, fb := [(1, 0x123456)] })
      (fun t => decide (t.present = some ⟨1, 2, false, [[0x3456], [0]]⟩ ∧ t.presentHeld = false ∧ t.out = [] ∧
        t.lifecycle = .idle)) = true := by decide +kernel

/-- P5 @16: the 24-bit frame's words -/
theorem test_finalize_with_sink :
    after (step { at' smallCfg .inFrame [0x09000000] with
        displayMode := ⟨0, 0, 2, 1, true⟩, fb := [(0, 0x123456), (1, 0x123456)], videoBound := true })
      (fun t => decide (t.out.map eventWords = [[0x00010002, 0x00000001, 0x00123456, 0x00123456]] ∧
        t.presentHeld = true)) = true := by decide +kernel

/-- V-RS16: interpolation floors, on the 8 x 8 framebuffer (cells y * 8 + x) -/
theorem test_push_triangle_floors :
    after (exec (.pushTriangle ⟨0, 0, 0⟩ ⟨3, 0, 0x00640000⟩ ⟨0, 3, 0⟩ false)
        { inFrame with displayMode := ⟨0, 0, 4, 4, true⟩ })
      (fun t => decide (t.fb = [(1, 0x210000), (2, 0x420000), (9, 0x210000)] ∧ t.pos = 7)) = true := by decide +kernel

/-- L1-8: PUSH_TRIANGLE in Idle -/
theorem test_push_triangle_in_idle :
    after (step (at' specCfg .idle [0x20000000, 0, 0, 4, 0, 0x00040000, 0]))
      (fun t => decide (t.fault = ⟨4, 0x20000000, 0⟩ ∧ t.fb = [] ∧ t.pos = 0)) = true := by decide +kernel

/-! ### The rasterizer's units -/

/-- V-RS6: the pixels of a triangle with negative area -/
theorem test_coverage_after_swap :
    coveredPoints ⟨0, 64, 0, 64⟩ (normalise (translatedTri ⟨0, 0⟩ ⟨2, 0, 0⟩ ⟨0, 4, 0⟩ ⟨4, 4, 0⟩)) =
      [⟨2, 1⟩, ⟨1, 2⟩, ⟨2, 2⟩, ⟨1, 3⟩, ⟨2, 3⟩, ⟨3, 3⟩] := by decide +kernel

/-- V-RS14: the datapath's extremes -/
theorem test_datapath_extremes :
    area (translatedTri ⟨0, 0⟩ ⟨32767, 32768, 0x00FFFFFF⟩ ⟨32767, 32767, 0⟩ ⟨32768, 32767, 0x00FF00FF⟩) = 4294836225 ∧
    shade (translatedTri ⟨0, 0⟩ ⟨32767, 32768, 0x00FFFFFF⟩ ⟨32767, 32767, 0⟩ ⟨32768, 32767, 0x00FF00FF⟩) true false
      ⟨1, 1⟩ = 0xFE7FFE := by decide +kernel

/-- L1-1 (b): the dithered pixel (10, 20) of P1 -/
theorem test_dithered_pixel :
    shade (translatedTri ⟨0, 0⟩ ⟨0, 0, 0x00FF0000⟩ ⟨63, 0, 0x0000FF00⟩ ⟨0, 63, 0x000000FF⟩) false true ⟨10, 20⟩ =
      0x4089 := by decide +kernel

/-- V-RS25, V-RS27 -/
theorem test_pack :
    packPixel false 8 16 24 = 0x0443 ∧ packPixel true 8 16 24 = 0x081018 ∧ packPixel false 133 40 80 = 0x40AA := by
  decide

/-- The examples of R77's byte image in 95_test_vectors.md section 2.1 -/
theorem test_byte_image :
    wordBytes 0x20000001 = [0x01, 0x00, 0x00, 0x20] ∧ pixelBytes false 0x40AA = [0xAA, 0x40] ∧
    pixelBytes true 0x852850 = [0x50, 0x28, 0x85, 0x00] := by decide

theorem test_reset_memory : Memory.wf State.reset.cfg.background State.reset.fb = true := by decide

/-! ### Witnesses: hypotheses of the obligations are met -/

theorem witness_EncodeOfDecode :
    decode [0x07000000, 0x10000000, 0x0005FFFE] 1 = .command (.setDrawOffset (BitVec.ofInt 16 (-2)) 5) := by decide

/-- an illegal header, the longest packet one word short, and just complete -/
theorem witness_DecoderVerdicts :
    headerRow 0x07000000 = none ∧
    (headerRow 0x20000000 = some ⟨0x20, 7, true⟩ ∧ ([0, 0, 0, 0, 0] : List Word).length + 1 < 7) ∧
    7 ≤ ([0, 0, 0, 0, 0, 0] : List Word).length + 1 := by decide

theorem witness_PacketLengths :
    opOf .finalizeFrame ∈ [Op.openCore, .closeCore, .getSystemAvInfo, .refreshVariables, .registerEnvCallback,
      .registerVideoCallback, .prepareFrame, .finalizeFrame] ∧
    opOf (.setDrawOffset 0 0) = .setDrawOffset ∧ opOf (.setDrawArea 0 0 0 0) = .setDrawArea ∧
    opOf (.setDisplayMode 0 0 0 0 true) = .setDisplayMode ∧
    opOf (.pushTriangle ⟨0, 0, 0⟩ ⟨0, 0, 0⟩ ⟨0, 0, 0⟩ true) = .pushTriangle := by decide

/-- with no turn listed, and with the command processor's listed -/
theorem witness_StepRunsDecodedCommand :
    (at' smallCfg .idle [0x04000000]).fault.code = 0#3 ∧ (at' smallCfg .idle [0x04000000]).CoreTurn ∧
    State.CoreTurn { at' smallCfg .idle [0x04000000] with turns := [.core, .release] } ∧
    decode (at' smallCfg .idle [0x04000000]).stream (at' smallCfg .idle [0x04000000]).pos =
      .command .refreshVariables := by decide

theorem witness_IllegalHeaderFaults :
    (at' smallCfg .inFrame [0x0A000000, 7]).fault.code = 0#3 ∧ (at' smallCfg .inFrame [0x0A000000, 7]).CoreTurn ∧
    (at' smallCfg .inFrame [0x0A000000, 7]).stream.drop 0 = [0x0A000000, 7] ∧ headerRow 0x0A000000 = none := by decide

theorem witness_IncompletePacketHolds :
    (at' smallCfg .inFrame [0x10000000]).fault.code = 0#3 ∧ (at' smallCfg .inFrame [0x10000000]).CoreTurn ∧
    (at' smallCfg .inFrame [0x10000000]).stream.drop 0 = [0x10000000] ∧
    headerRow 0x10000000 = some ⟨0x10, 2, false⟩ ∧ ([] : List Word).length + 1 < 2 ∧
    (at' smallCfg .inFrame [0x10000000]).HostDone ∧
    State.HostDone { at' smallCfg .inFrame [0x10000000] with turns := [.core, .core] } := by decide

/-- SET_DRAW_AREA's header waits two turns, then its two words are sent (V-E12's words), and it is the command processor's turn. -/
def waitingState : State :=
  { at' smallCfg .inFrame [0x11000000] with
    turns := [.core, .core, .send 0x00000001, .send 0x00030006, .core, .release] }

theorem witness_IncompletePacketHolds_send :
    waitingState.Waiting ∧
    waitingState.turns = List.replicate 2 Turn.core ++
      (([0x00000001, 0x00030006] : List Word).map Turn.send ++ Turn.core :: [.release]) ∧
    decode (waitingState.stream ++ [0x00000001, 0x00030006]) waitingState.pos = .command (.setDrawArea 1 0 6 3) ∧
    ({ waitingState with turns := [.send 7] } : State).turns = .send 7 :: [] := by decide

/-- a state and a command for each row of faults, PREPARE_FRAME with a held frame among them -/
theorem witness_LegalityTableFaults :
    ((at' smallCfg .closed []).fault.code = 0#3 ∧ (at' smallCfg .closed []).lifecycle = .closed ∧
      opOf .closeCore ∉ [Op.openCore, .registerEnvCallback, .registerVideoCallback]) ∧
    (heldState.lifecycle ≠ .closed ∧ opOf (.openCore true) = .openCore) ∧
    (heldState.lifecycle = .idle ∧ opOf .finalizeFrame ∈ [Op.pushTriangle, .finalizeFrame]) ∧
    ((at' { smallCfg with strictSetters := true } .idle []).lifecycle = .idle ∧
      (at' { smallCfg with strictSetters := true } .idle []).cfg.strictSetters = true ∧
      opOf (.setDisplayMode 0 0 0 0 false) ∈ [Op.setDrawOffset, .setDrawArea, .setDisplayMode]) ∧
    (({ inFrame with presentHeld := true } : State).lifecycle = .inFrame ∧
      opOf .prepareFrame ∈ [Op.prepareFrame, .closeCore]) := by decide

theorem witness_FaultsArePrecise :
    ∃ t, (at' smallCfg .closed [0x02000000]).fault.code = 0#3 ∧
      step (at' smallCfg .closed [0x02000000]) = .next t ∧ t.fault.code ≠ 0#3 := ⟨_, by decide, rfl, by decide⟩

theorem witness_FaultIsNeverLeft :
    latched.fault.code ≠ 0#3 ∧ Turn.release ∉ latched.turns := by decide

/-- a packet executed, a fault, a hold -/
theorem witness_PosAdvancesByPacketLength :
    inFrame.fault.code = 0#3 ∧
    (∃ t, exec (.pushTriangle triA0 triA1 triA2 false) inFrame = .next t) ∧
    (∃ t, exec .prepareFrame inFrame = .next t) ∧ (∃ t, exec .prepareFrame heldState = .next t) :=
  ⟨by decide, ⟨_, rfl⟩, ⟨_, rfl⟩, ⟨_, rfl⟩⟩

theorem witness_OnlyFinalOrStuckStatesRest :
    heldState.fault.code = 0#3 ∧ heldState.HostDone ∧ heldState.PosInv ∧
    modeInRange heldState.cfg heldState.displayMode = true ∧
    State.HostDone { heldState with turns := [.core, .core] } := by decide

/-- R309: a held or a waiting run with idle turns of the command processor left is stuck; with a host's turn left it is not. -/
theorem test_stuck_with_idle_turns :
    State.Stuck { heldState with turns := [.core, .core] } ∧ ¬ State.Stuck { heldState with turns := [.core, .release] } ∧
    State.Stuck { waitingState with turns := [.core] } ∧ ¬ waitingState.Stuck := by decide

/-- each register is changed by a command of its row, and a release's turn can come -/
theorem witness_WriteSets :
    after (exec (.openCore true) shut) (fun t => decide (t.lifecycle ≠ shut.lifecycle ∧ t.isPal ≠ shut.isPal ∧
      t.out ≠ shut.out)) = true ∧
    after (exec (.setDrawOffset 1 1) inFrame) (fun t => decide (t.drawOffset ≠ inFrame.drawOffset)) = true ∧
    after (exec (.setDrawArea 1 1 1 1) inFrame) (fun t => decide (t.drawArea ≠ inFrame.drawArea)) = true ∧
    after (exec (.setDisplayMode 1 1 1 1 true) inFrame) (fun t => decide (t.displayMode ≠ inFrame.displayMode)) = true ∧
    after (exec (.pushTriangle triA0 triA1 triA2 false) inFrame) (fun t => decide (t.fb ≠ inFrame.fb)) = true ∧
    after (exec .finalizeFrame inFrame) (fun t => decide (t.present ≠ inFrame.present)) = true ∧
    after (exec .registerEnvCallback inFrame) (fun t => decide (t.envBound ≠ inFrame.envBound)) = true ∧
    after (exec .registerVideoCallback inFrame) (fun t => decide (t.videoBound ≠ inFrame.videoBound)) = true ∧
    after (exec .prepareFrame inFrame) (fun t => decide (t.pos = inFrame.pos ∧ t.fault ≠ inFrame.fault)) = true ∧
    after (exec .closeCore heldState) (fun t => decide (t.presentHeld ≠ heldState.presentHeld)) = true ∧
    (opOf (.openCore false) = .openCore ∧ ({ shut with openAnswers := [false] } : State).openOk = false) ∧
    ({ heldState with turns := [.release] } : State).turns.head? = some .release := by decide +kernel

theorem witness_OutIsAppendOnly : ∃ t, step (at' smallCfg .closed [0x01000000]) = .next t := ⟨_, rfl⟩

theorem witness_ClosedRegistersUnobservable :
    (at' smallCfg .closed []).hideClosed =
      State.hideClosed { at' smallCfg .closed [] with isPal := true, drawOffset := ⟨1, 2⟩, fb := [(3, 7)] } ∧
    at' smallCfg .closed [] ≠
      { at' smallCfg .closed [] with isPal := true, drawOffset := ⟨1, 2⟩, fb := [(3, 7)] } := by decide

theorem witness_FramebufferReadByFinalizeOnly :
    Instr.pushTriangle triA0 triA1 triA2 false ≠ .finalizeFrame ∧ Instr.prepareFrame ≠ .finalizeFrame ∧
    Memory.wf inFrame.cfg.background [(0, 9)] = true ∧ 7 < inFrame.cfg.fbW ∧ 7 < inFrame.cfg.fbH ∧
    after (exec (.pushTriangle triA0 triA1 triA2 false) { inFrame with fb := [(0, 9)] })
      (fun t => decide (fbRead t.cfg t.fb 0 0 = 0x7C00)) = true := by decide +kernel

theorem witness_FramebufferStaysCanonical :
    (at' smallCfg .idle [0x04000000]).FbInv ∧ (∃ t, step (at' smallCfg .idle [0x04000000]) = .next t) :=
  ⟨by decide, ⟨_, rfl⟩⟩

/-- a covered cell and an uncovered one, both at the framebuffer's corners -/
theorem witness_LastWriteWins :
    (inFrame.fault.code = 0#3 ∧ inFrame.lifecycle = .inFrame ∧ Memory.wf inFrame.cfg.background inFrame.fb = true) ∧
    (0 < inFrame.cfg.fbW ∧ 7 < inFrame.cfg.fbW ∧ 7 < inFrame.cfg.fbH) ∧
    (⟨⟨0, 0⟩, 0x7C00⟩ : Point × Cell) ∈
      trianglePixels inFrame.cfg inFrame.drawOffset inFrame.drawArea false triA0 triA1 triA2 false ∧
    (∀ q ∈ trianglePixels inFrame.cfg inFrame.drawOffset inFrame.drawArea false triA0 triA1 triA2 false,
      q.1 ≠ ⟨7, 7⟩) := by decide +kernel

theorem witness_OpenResult :
    ((at' smallCfg .closed []).fault.code = 0#3 ∧ (at' smallCfg .closed []).lifecycle = .closed ∧
      (at' smallCfg .closed []).openOk = true) ∧
    ({ at' smallCfg .closed [] with openAnswers := [false] } : State).openOk = false ∧
    (inFrame.fault.code = 0#3 ∧ inFrame.lifecycle ≠ .closed) ∧ 7 < (at' smallCfg .closed []).cfg.fbW := by decide

/-- The states of the result statements: no fault latched, in each lifecycle state (CloseResult, GetSystemAvInfoResult,
RefreshVariablesResult, RegisterCallbackResults, SetDrawOffsetResult, SetDrawAreaResult, PushTriangleEncodingAndFaults). -/
theorem witness_lifecycle_states :
    (∀ l, (at' smallCfg l []).fault.code = 0#3 ∧ (at' smallCfg l []).lifecycle = l ∧
      (at' smallCfg l []).cfg.strictSetters = false) ∧
    (at' { smallCfg with strictSetters := true } .idle []).cfg.strictSetters = true := by
  refine ⟨fun l => ?_, by decide⟩
  cases l <;> decide

theorem witness_CloseResult : (at' smallCfg .idle []).lifecycle = .idle := (witness_lifecycle_states.1 .idle).2.1
theorem witness_GetSystemAvInfoResult :
    (at' smallCfg .inFrame []).lifecycle ≠ .closed ∧ (at' smallCfg .inFrame []).cfg.wf ∧
    ({ smallCfg with fbW := 65535, fbH := 65535 } : Config).wf := by decide +kernel
theorem witness_RefreshVariablesResult : (at' smallCfg .idle []).lifecycle ≠ .closed := by decide
theorem witness_RegisterCallbackResults :
    heldState.fault.code = 0#3 ∧ (∃ t, exec .closeCore heldState = .next t) ∧ heldState.videoBound = true ∧
    ({ heldState with envBound := true } : State).envBound = true := ⟨by decide, ⟨_, rfl⟩, by decide, by decide⟩
theorem witness_SetDrawOffsetResult :
    (at' smallCfg .idle []).lifecycle = .idle ∧ (at' smallCfg .idle []).cfg.strictSetters = false :=
  (witness_lifecycle_states.1 .idle).2
theorem witness_SetDrawAreaResult :
    (at' { smallCfg with strictSetters := true } .idle []).cfg.strictSetters = true := witness_lifecycle_states.2
theorem witness_PushTriangleEncodingAndFaults : (at' smallCfg .closed []).lifecycle = .closed :=
  (witness_lifecycle_states.1 .closed).2.1

theorem witness_AvInfoIsStable :
    ∃ t, step (at' smallCfg .idle [0x12000001, 0, 0x00010001]) = .next t := ⟨_, rfl⟩

theorem witness_IsPalWrittenByOpenOnly :
    after (step (at' smallCfg .closed [0x01000001]))
      (fun t => decide (t.isPal ≠ (at' smallCfg .closed [0x01000001]).isPal)) = true := by decide +kernel

/-- the range's edges: an empty width, the last fitting width, the first that does not fit -/
theorem witness_SetDisplayModeResult :
    ¬ (1 ≤ (0 : Half).toNat ∧ 1 ≤ (1 : Half).toNat) ∧
    (1 ≤ (8 : Half).toNat ∧ 1 ≤ (8 : Half).toNat ∧ (0 : Half).toNat + (8 : Half).toNat ≤ inFrame.cfg.fbW ∧
      (0 : Half).toNat + (8 : Half).toNat ≤ inFrame.cfg.fbH) ∧
    ¬ ((1 : Half).toNat + (8 : Half).toNat ≤ inFrame.cfg.fbW) ∧
    inFrame.lifecycle = .inFrame ∧ inFrame.fault.code = 0#3 := by decide

/-- a covered cell, one on T_a's excluded edge, and one outside the draw area -/
theorem witness_PushTriangleResult :
    inFrame.fault.code = 0#3 ∧ inFrame.lifecycle = .inFrame ∧
    Memory.wf inFrame.cfg.background inFrame.fb = true ∧ area triA ≠ 0 ∧
    covered (normalise triA) ⟨0, 0⟩ = true ∧ covered (normalise triA) ⟨3, 1⟩ = false ∧
    ¬ (8 < inFrame.drawArea.ax.toNat + inFrame.drawArea.aw.toNat) := by decide +kernel

/-- a degenerate triangle (L1-2), and each empty clip region -/
theorem witness_NothingToDraw :
    area (translatedTri inFrame.drawOffset ⟨0, 0, 0⟩ ⟨5, 5, 0⟩ ⟨10, 10, 0⟩) = 0 ∧
    ({ inFrame with drawArea := ⟨0, 0, 0, 8⟩ } : State).drawArea.aw = 0 ∧
    ({ inFrame with drawArea := ⟨0, 0, 8, 0⟩ } : State).drawArea.ah = 0 ∧
    inFrame.cfg.fbW ≤ ({ inFrame with drawArea := ⟨8, 0, 8, 8⟩ } : State).drawArea.ax.toNat ∧
    inFrame.cfg.fbH ≤ ({ inFrame with drawArea := ⟨0, 8, 8, 8⟩ } : State).drawArea.ay.toNat := by decide +kernel

/-- T_a wound the other way, T_a, and a degenerate triangle -/
theorem witness_NormalisedWeights :
    area ⟨triA.v0, triA.v2, triA.v1⟩ < 0 ∧ 0 ≤ area triA ∧ 0 ≤ area ⟨triA.v0, triA.v0, triA.v1⟩ := by decide

theorem witness_InterpolationFloorsInRange : 0 < area triA ∧ covered triA ⟨0, 3⟩ = true := by decide

/-- the first and the last framebuffer coordinate, and a covered pixel -/
theorem witness_DatapathWidths :
    (0 ≤ ptO.x ∧ ptO.x ≤ 65534 ∧ 0 ≤ ptO.y ∧ ptO.y ≤ 65534) ∧
    (0 ≤ (⟨65534, 65534⟩ : Point).x ∧ (⟨65534, 65534⟩ : Point).x ≤ 65534 ∧
      0 ≤ (⟨65534, 65534⟩ : Point).y ∧ (⟨65534, 65534⟩ : Point).y ≤ 65534) ∧
    covered (normalise triA) ptO = true := by decide

/-- L1-4 instance 1: the diagonal of the square, its middle pixel -/
theorem witness_SharedEdgePartitioned :
    edge ptE ptS ptO * edge ptE ptS ⟨4, 4⟩ < 0 ∧ edge ptE ptS ⟨2, 2⟩ = 0 ∧
    (0 : Int) < (2 - ptE.x) * (ptS.x - ptE.x) + (2 - ptE.y) * (ptS.y - ptE.y) ∧
    (2 - ptE.x) * (ptS.x - ptE.x) + (2 - ptE.y) * (ptS.y - ptE.y) <
      (ptS.x - ptE.x) * (ptS.x - ptE.x) + (ptS.y - ptE.y) * (ptS.y - ptE.y) := by decide

theorem witness_VertexOrderIrrelevant : List.Perm [triA2, triA0, triA1] [triA0, triA1, triA2] := by decide

/-- L1-5 -/
theorem witness_OffsetEquivalence :
    ∀ q ∈ [((⟨2, 0, 0x00FF0000⟩ : Vertex), (⟨0, 5, 0x00FF0000⟩ : Vertex)), (⟨6, 0, 0x0000FF00⟩, ⟨4, 5, 0x0000FF00⟩),
        (⟨2, 4, 0x000000FF⟩, ⟨0, 9, 0x000000FF⟩)],
      q.2.c = q.1.c ∧ q.2.x.toInt = q.1.x.toInt + (BitVec.ofInt 16 (-2)).toInt ∧
        q.2.y.toInt = q.1.y.toInt + (5 : Half).toInt := by decide

/-- V-E21 -/
theorem witness_ReservedColorByteIgnored :
    (0xAB123456#32).toNat % 2 ^ 24 = (0x00123456#32).toNat % 2 ^ 24 := by decide

theorem witness_WriteOrderIrrelevant :
    Memory.wf smallCfg.background [] = true ∧
    List.Perm [(⟨ptE, 1⟩ : Point × Cell), ⟨ptO, 2⟩] [⟨ptO, 2⟩, ⟨ptE, 1⟩] := by decide

theorem witness_PixelsStayInClipRegion :
    (⟨⟨0, 3⟩, 0x7C00⟩ : Point × Cell) ∈
      trianglePixels smallCfg ⟨0, 0⟩ ⟨0, 0, 8, 8⟩ false triA0 triA1 triA2 false := by decide +kernel

/-- below, above and at both ends of the clamp's range (V-RS21, V-RS22), and a covered pixel -/
theorem witness_DitherAndClamp :
    (-2 : Int) < 0 ∧ (255 : Int) < 256 ∧ ((0 : Int) ≤ 0 ∧ (0 : Int) ≤ 255) ∧ ((0 : Int) ≤ 255 ∧ (255 : Int) ≤ 255) ∧
    0 < area triA ∧ covered triA ptO = true := by decide

theorem witness_PixelLayouts :
    255 < 256 ∧ (⟨⟨0, 0⟩, 0x7C00⟩ : Point × Cell) ∈
      trianglePixels smallCfg ⟨0, 0⟩ ⟨0, 0, 8, 8⟩ false triA0 triA1 triA2 false := by decide +kernel

/-- each of the four transitions happens -/
theorem witness_LifecycleTransitions :
    after (step (at' smallCfg .closed [0x01000000])) (fun t => decide (t.lifecycle = .idle)) = true ∧
    after (step (at' smallCfg .idle [0x08000000])) (fun t => decide (t.lifecycle = .inFrame)) = true ∧
    after (step (at' smallCfg .inFrame [0x09000000])) (fun t => decide (t.lifecycle = .idle)) = true ∧
    after (step (at' smallCfg .idle [0x02000000])) (fun t => decide (t.lifecycle = .closed)) = true := by decide +kernel

theorem witness_PrepareFrameResult :
    (heldState.fault.code = 0#3 ∧ heldState.lifecycle = .idle ∧ heldState.presentHeld = true) ∧
    ((at' smallCfg .idle []).presentHeld = false ∧ (at' smallCfg .idle []).cfg.clearOnPrepare = false) ∧
    inFrame.lifecycle = .inFrame ∧ (at' smallCfg .closed []).lifecycle = .closed := by decide

theorem witness_PrepareFrameClears :
    clearing.fault.code = 0#3 ∧ clearing.lifecycle = .idle ∧ clearing.presentHeld = false ∧
    clearing.cfg.clearOnPrepare = true ∧ modeInRange clearing.cfg clearing.displayMode = true ∧
    Memory.wf clearing.cfg.background clearing.fb = true ∧ 7 < clearing.cfg.fbW ∧ 7 < clearing.cfg.fbH := by decide

theorem witness_HeldPrepareExecutesAfterRelease :
    heldState.Held ∧ modeInRange heldState.cfg heldState.displayMode = true ∧
    State.Held { heldState with turns := [.core, .core, .release, .core] } ∧
    ([.core, .core, .release, .core] : List Turn) = List.replicate 2 Turn.core ++ Turn.release :: Turn.core :: [] := by
  decide

/-- with and without the video sink, and the window's last pixel -/
theorem witness_FinalizeFrameResult :
    inFrame.fault.code = 0#3 ∧ inFrame.lifecycle = .inFrame ∧ modeInRange inFrame.cfg inFrame.displayMode = true ∧
    inFrame.videoBound = false ∧ ({ inFrame with videoBound := true } : State).videoBound = true ∧
    3 < inFrame.displayMode.dw.toNat ∧ 3 < inFrame.displayMode.dh.toNat ∧
    (at' smallCfg .closed []).lifecycle = .closed ∧ (at' smallCfg .idle []).lifecycle = .idle := by decide

theorem witness_VideoRefreshByFinalizeOnly :
    after (step { at' smallCfg .inFrame [0x09000000] with videoBound := true, displayMode := ⟨0, 0, 1, 1, false⟩ })
      (fun t => decide (t.out.count (.videoRefresh ⟨1, 1, false, [[0]]⟩) = 1)) = true := by decide +kernel

theorem witness_ReleasePort :
    ({ latched with turns := [.release] } : State).turns = .release :: [] ∧ inFrame.presentHeld = false := by decide

theorem witness_ReleaseCommutes :
    ¬ (Instr.closeCore = .prepareFrame ∧ heldState.presentHeld = true) ∧
    ¬ (Instr.closeCore = .finalizeFrame ∧ heldState.videoBound = true) := by decide

/-- A frame of one 16-bit pixel is well formed. -/
theorem tinyFrame_wf : (⟨1, 1, false, [[5]]⟩ : Frame).wf := by
  refine ⟨by decide, by decide, rfl, by decide, fun _ row hr c hc => ?_⟩
  rw [List.mem_singleton.1 hr] at hc
  rw [List.mem_singleton.1 hc]
  decide

/-- The invariants of R249 hold in a state with a held frame. -/
theorem heldState_lifecycleInv : heldState.LifecycleInv where
  cfg_wf := by decide +kernel
  mode_legal := by decide +kernel
  held_bound := by decide
  held_idle := by decide
  held_present := by decide
  inFrame_free := by decide
  closed_none := by decide
  present_wf := by
    intro f h
    have : f = ⟨1, 1, false, [[5]]⟩ := (Option.some.inj h).symm
    subst this; exact tinyFrame_wf
  out_wf := by intro f h; cases h

theorem witness_HeldFrameIsNotWritten :
    heldState.LifecycleInv ∧ (∃ t, step heldState = .next t ∧ heldState.presentHeld = true ∧ t.presentHeld = true) :=
  ⟨heldState_lifecycleInv, _, rfl, by decide, by decide⟩

theorem witness_LifecycleInvariantsKept :
    heldState.LifecycleInv ∧ (∃ t, step heldState = .next t) := ⟨heldState_lifecycleInv, _, rfl⟩

theorem witness_LatchAndPositionKept :
    heldState.FaultInv ∧ heldState.PosInv ∧ (∃ t, step heldState = .next t) ∧ latched.FaultInv ∧ latched.PosInv :=
  ⟨by decide, by decide, ⟨_, rfl⟩, by decide, by decide⟩

theorem witness_InvariantsAtPowerUp : Config.defaults.wf ∧ smallCfg.wf := by decide +kernel

theorem witness_NoStepStops : modeInRange heldState.cfg heldState.displayMode = true := by decide

theorem witness_EventWordLayout :
    (⟨2, 1, true, [[0x123456, 0xFFFFFF]]⟩ : Frame).wf ∧ 1 < (2 : Half).toNat ∧ 0 < (1 : Half).toNat := by decide

theorem witness_ByteImage :
    (⟨1, 1, false, [[5]]⟩ : Frame).wf ∧ 0 < (1 : Half).toNat ∧ (⟨2, 1, true, [[0x123456, 0xFFFFFF]]⟩ : Frame).wf ∧
    1 < (2 : Half).toNat := ⟨tinyFrame_wf, by decide, by decide, by decide⟩

end Sys2Proof.Tests
end

/-! ### GET_SYSTEM_AV_INFO (R143, R144) -/

namespace Sys2Proof.Machine

/-- The rows of R248 that answer NOT_OPEN in Closed hold no fault in the other two lifecycle states. -/
theorem whileOpen_of_ne_closed {l : Lifecycle} (h : l ≠ .closed) : whileOpen l = none := by
  cases l with
  | closed => exact absurd rfl h
  | idle => rfl
  | inFrame => rfl

/-- Outside Closed, GET_SYSTEM_AV_INFO appends the A/V record and moves `POS` past its one word (R143). -/
theorem exec_getSystemAvInfo_of_ne_closed {s : State} (h : s.lifecycle ≠ .closed) :
    exec .getSystemAvInfo s = .next { s with pos := s.pos + 1, out := s.out ++ [.avInfo (avInfo s)] } := by
  have row : legality s.cfg.strictSetters .getSystemAvInfo s.lifecycle = none := whileOpen_of_ne_closed h
  rw [exec, execGetSystemAvInfo, guarded_ok row]
  rfl

/-- In R6's range a framebuffer dimension is not cut by the record's u16 field (log 20). -/
theorem ofNat16_toNat_of_le {n : Nat} (h : n ≤ 65535) : (BitVec.ofNat 16 n).toNat = n := by
  rw [BitVec.toNat_ofNat]
  exact Nat.mod_eq_of_lt (by omega)

/-- Settles O24: the legality table decides between NOT_OPEN and the record (R143, R248), and R6's range bounds the maxima. -/
theorem getSystemAvInfoResult : Obligations.GetSystemAvInfoResult := by
  have word : encode .getSystemAvInfo = [0x03000000#32] := by simp [encode, argWords]
  refine ⟨word, fun s hfault => ⟨fun hclosed => ?_, exec_getSystemAvInfo_of_ne_closed, ?_⟩⟩
  · have row : legality s.cfg.strictSetters .getSystemAvInfo s.lifecycle = some .notOpen := by rw [hclosed]; rfl
    rw [exec_violation hfault row, headerWord_getSystemAvInfo]
    rfl
  · intro ⟨_, hw, _, hh, _⟩
    exact ⟨ofNat16_toNat_of_le hw, ofNat16_toNat_of_le hh⟩

end Sys2Proof.Machine

/-! ### What one step can do (R285, R82) -/

namespace Sys2Proof.Machine

/-- The cases of a step that goes on, each with what holds there: the command processor rests, the host releases or
sends, a fault is latched, or the command at `POS` has its effect. -/
inductive StepOutcome (s : State) : State → Prop where
  | rested : StepOutcome s s.tookTurn
  | released : StepOutcome s s.tookTurn.releaseFrame
  | sent (w : Word) : StepOutcome s (s.tookTurn.sendWord w)
  | faulted (v : Violation) (w : Word) (clear : s.fault.code = 0#3) : StepOutcome s (s.tookTurn.raiseFault v w)
  | executed {i : Instr} {t : State} (clear : s.fault.code = 0#3) (cmd : decode s.stream s.pos = .command i)
      (row : legality s.cfg.strictSetters i s.lifecycle = none) (eff : Effect s.tookTurn i t) : StepOutcome s t

/-- `step_next`, `coreStep_next` and `exec_next` in one case distinction. -/
theorem stepOutcome_of_step {s t : State} (h : step s = .next t) : StepOutcome s t := by
  rcases step_next h with ⟨-, hcore⟩ | ⟨-, rfl⟩ | ⟨w, -, rfl⟩
  · rcases coreStep_next hcore with ⟨-, rfl⟩ | ⟨-, -, rfl⟩ | ⟨-, -, rfl⟩ | ⟨w, clear, -, rfl⟩ | ⟨i, clear, cmd, hexec⟩
    · exact .rested
    · exact .rested
    · exact .rested
    · exact .faulted _ w clear
    · rcases exec_next hexec with ⟨v, -, rfl⟩ | ⟨row, eff⟩
      · exact .faulted v _ clear
      · exact .executed clear cmd row eff
  · exact .released
  · exact .sent w

/-- Every command consults the legality table first (R248); what follows answers a next state wherever the display
window lies inside the framebuffer (R72). -/
theorem exec_eq_guarded (i : Instr) :
    ∃ body, (∀ s : State, exec i s = guarded i s body) ∧
      ∀ s : State, windowInFb s.cfg s.displayMode = true → ∃ t, body s = .next t := by
  cases i <;> refine ⟨_, fun _ => rfl, fun s window => ?_⟩
  case prepareFrame =>
    rw [if_pos window]
    split_ifs
    · exact ⟨_, rfl⟩
    · exact ⟨_, rfl⟩
    · exact ⟨_, rfl⟩
  case finalizeFrame => exact ⟨_, if_pos window⟩
  case setDisplayMode =>
    split_ifs
    · exact ⟨_, rfl⟩
    · exact ⟨_, rfl⟩
  all_goals exact ⟨_, rfl⟩

/-- Where the legality table names a fault, the command raises it, latched already or not (R248, R270). -/
theorem exec_of_violation {i : Instr} {s : State} {v : Violation}
    (row : legality s.cfg.strictSetters i s.lifecycle = some v) :
    exec i s = .next (s.raiseFault v (headerWord i)) := by
  obtain ⟨body, hbody, -⟩ := exec_eq_guarded i
  rw [hbody, guarded_violation row]

/-- Raising a fault changes `FAULT` only (R270). -/
theorem State.raiseFault_eq (v : Violation) (w : Word) (s : State) :
    s.raiseFault v w = { s with fault := (s.raiseFault v w).fault } := by
  unfold State.raiseFault
  split <;> rfl

/-- OPEN's row of R248 outside Closed. -/
theorem whileClosed_of_ne_closed {l : Lifecycle} (h : l ≠ .closed) : whileClosed l = some .alreadyOpen := by
  cases l with
  | closed => exact absurd rfl h
  | idle => rfl
  | inFrame => rfl

end Sys2Proof.Machine

/-! ### The lifecycle invariants (R249) -/

namespace Sys2Proof.Machine

/-- A pixel presented at 16 bits is below 2^16 (R245). -/
theorem presentedPixel_false_lt (c : Cell) : (presentedPixel false c).toNat < 2 ^ 16 := by
  have hand : (presentedPixel false c).toNat = c.toNat &&& 65535 := by simp [presentedPixel]
  have hle : c.toNat &&& 65535 ≤ 65535 := Nat.and_le_right
  omega

/-- The snapshot of a legal display window is a well-formed frame (R245, R249). -/
theorem snapshot_wf {s : State} (h : modeInRange s.cfg s.displayMode = true) : (snapshot s).wf := by
  obtain ⟨hw, hh, -, -⟩ := of_decide_eq_true h
  refine ⟨hw, hh, by simp [snapshot], ?_, ?_⟩
  · intro row hrow
    obtain ⟨j, -, rfl⟩ := List.mem_map.1 hrow
    simp [snapshot]
  · intro hd row hrow c hc
    have h16 : s.displayMode.d24 = false := hd
    obtain ⟨j, -, rfl⟩ := List.mem_map.1 hrow
    obtain ⟨i, -, rfl⟩ := List.mem_map.1 hc
    rw [h16]
    exact presentedPixel_false_lt _

namespace State.LifecycleInv

variable {s : State}

theorem tookTurn (h : s.LifecycleInv) : s.tookTurn.LifecycleInv := { h with }

theorem sendWord (h : s.LifecycleInv) (w : Word) : (s.sendWord w).LifecycleInv := { h with }

theorem complete (h : s.LifecycleInv) (i : Instr) : (s.complete i).LifecycleInv := { h with }

theorem takeDraw (h : s.LifecycleInv) : s.takeDraw.LifecycleInv := { h with }

theorem clearWindow (h : s.LifecycleInv) : s.clearWindow.LifecycleInv := { h with }

theorem draw (h : s.LifecycleInv) (v0 v1 v2 : Vertex) (d : Bool) : (s.draw v0 v1 v2 d).LifecycleInv := { h with }

theorem raiseFault (h : s.LifecycleInv) (v : Violation) (w : Word) : (s.raiseFault v w).LifecycleInv := by
  rw [State.raiseFault_eq]
  exact { h with }

/-- With nothing held, the invariants that speak of a held frame hold. -/
theorem releaseFrame (h : s.LifecycleInv) : s.releaseFrame.LifecycleInv :=
  { h with
    held_bound := nofun
    held_idle := nofun
    held_present := nofun
    inFrame_free := fun _ => rfl }

theorem emit (h : s.LifecycleInv) {e : Event} (he : ∀ f, e = .videoRefresh f → f.wf) : (s.emit e).LifecycleInv :=
  { h with
    out_wf := fun f hf => by
      rcases List.mem_append.1 hf with hold | hnew
      · exact h.out_wf f hold
      · exact he f (List.mem_singleton.1 hnew).symm }

/-- OPEN's values (R50): the default display mode of a legal configuration is legal (log 13). -/
theorem initialise (h : s.LifecycleInv) (p : Bool) : (s.initialise p).LifecycleInv := by
  obtain ⟨-, -, -, -, hmode⟩ := h.cfg_wf
  exact { h with
    mode_legal := hmode
    held_bound := nofun
    held_idle := nofun
    held_present := nofun
    inFrame_free := nofun
    closed_none := nofun
    present_wf := nofun }

theorem shut (h : s.LifecycleInv) : s.shut.LifecycleInv :=
  { h with
    held_bound := nofun
    held_idle := nofun
    held_present := nofun
    inFrame_free := nofun
    closed_none := fun _ => rfl
    present_wf := nofun }

/-- PREPARE_FRAME enters a frame only while nothing is held (R242). -/
theorem enterFrame (h : s.LifecycleInv) (free : s.presentHeld = false) : s.enterFrame.LifecycleInv :=
  { h with
    held_idle := fun held => absurd held (by simp [free])
    inFrame_free := fun _ => free
    closed_none := nofun }

theorem endFrame (h : s.LifecycleInv) {f : Frame} (hf : f.wf) : (s.endFrame f).LifecycleInv :=
  { h with
    held_idle := fun _ => rfl
    held_present := nofun
    inFrame_free := nofun
    closed_none := nofun
    present_wf := fun _ hg => Option.some.inj hg ▸ hf }

/-- A frame is delivered, and so held, only with `VIDEO_BOUND`, after it was stored in `PRESENT` (R244, R246). -/
theorem deliver (h : s.LifecycleInv) {f : Frame} (hl : s.lifecycle = .idle) (hp : s.present = some f) :
    (s.deliver f).LifecycleInv := by
  unfold State.deliver
  split
  case isTrue bound =>
    have held : ({ s with presentHeld := true } : State).LifecycleInv :=
      { h with
        held_bound := fun _ => bound
        held_idle := fun _ => hl
        held_present := fun _ => by simp [hp]
        inFrame_free := fun hin => absurd (hl.symm.trans hin) nofun }
    exact held.emit fun g hg => Event.videoRefresh.inj hg ▸ h.present_wf f hp
  case isFalse => exact h

/-- Every command keeps the invariants; a new display mode is checked first (R173). -/
theorem of_effect {i : Instr} {t : State} (h : s.LifecycleInv) (eff : Effect s i t) : t.LifecycleInv := by
  cases eff with
  | opened p => exact .complete (.emit (h.initialise p).takeDraw (by simp)) _
  | openFailed p => exact .complete (.emit h.takeDraw (by simp)) _
  | closed => exact h.shut.complete _
  | reported => exact .complete (.emit h (by simp)) _
  | refreshed => exact h.complete _
  | envRegistered => exact { h with }
  | videoRegistered => exact { h with held_bound := fun _ => rfl }
  | held => exact h
  | prepared free => exact (h.enterFrame free).complete _
  | preparedClear free => exact (h.enterFrame free).clearWindow.complete _
  | finalized => exact ((h.endFrame (snapshot_wf h.mode_legal)).deliver rfl rfl).complete _
  | offsetSet => exact { h with }
  | areaSet => exact { h with }
  | modeSet x y w hh d legal => exact { h with mode_legal := legal }
  | modeRefused => exact h.raiseFault _ _
  | drawn v0 v1 v2 d => exact (h.draw v0 v1 v2 d).complete _

end State.LifecycleInv

/-- Settles O55, operation by operation (R249). -/
theorem lifecycleInvariantsKept : Obligations.LifecycleInvariantsKept := by
  intro s t h hstep
  cases stepOutcome_of_step hstep with
  | rested => exact h.tookTurn
  | released => exact h.tookTurn.releaseFrame
  | sent w => exact h.tookTurn.sendWord w
  | faulted v w => exact h.tookTurn.raiseFault v w
  | executed _ _ _ eff => exact h.tookTurn.of_effect eff

end Sys2Proof.Machine

/-! ### Write sets (R45) -/

namespace Sys2Proof.Machine

/-- The write sets of R45, register by register; `POS` and `FAULT` are in `Effect.pos_fault`. -/
structure WritesOnly (i : Instr) (s t : State) : Prop where
  cfg : t.cfg = s.cfg
  stream : t.stream = s.stream
  turns : t.turns = s.turns
  lifecycle : t.lifecycle ≠ s.lifecycle → opOf i ∈ [Op.openCore, .closeCore, .prepareFrame, .finalizeFrame]
  isPal : t.isPal ≠ s.isPal → opOf i = .openCore
  drawOffset : t.drawOffset ≠ s.drawOffset → opOf i ∈ [Op.openCore, .setDrawOffset]
  drawArea : t.drawArea ≠ s.drawArea → opOf i ∈ [Op.openCore, .setDrawArea]
  displayMode : t.displayMode ≠ s.displayMode → opOf i ∈ [Op.openCore, .setDisplayMode]
  fb : t.fb ≠ s.fb → opOf i ∈ [Op.openCore, .pushTriangle] ∨ (i = .prepareFrame ∧ s.cfg.clearOnPrepare = true)
  present : t.present ≠ s.present → opOf i ∈ [Op.openCore, .closeCore, .finalizeFrame]
  presentHeld : t.presentHeld ≠ s.presentHeld →
    opOf i ∈ [Op.openCore, .closeCore] ∨ (i = .finalizeFrame ∧ s.videoBound = true)
  envBound : t.envBound ≠ s.envBound → i = .registerEnvCallback
  videoBound : t.videoBound ≠ s.videoBound → i = .registerVideoCallback
  out : t.out ≠ s.out → opOf i ∈ [Op.openCore, .getSystemAvInfo] ∨ (i = .finalizeFrame ∧ s.videoBound = true)

/-- Raising a fault is in every write set (R45, R270). -/
theorem WritesOnly.raiseFault (i : Instr) (s : State) (v : Violation) (w : Word) :
    WritesOnly i s (s.raiseFault v w) := by
  constructor <;> simp

/-- Each way a command ends is in its write set (R45): the field lemmas of the operations decide every register. -/
theorem Effect.writesOnly {s t : State} {i : Instr} (eff : Effect s i t) : WritesOnly i s t := by
  cases eff with
  | modeRefused => exact .raiseFault _ _ _ _
  | preparedClear _ clearing => constructor <;> simp [opOf, clearing]
  | finalized => cases bound : s.videoBound <;> constructor <;> simp [opOf, bound]
  | _ => constructor <;> simp [opOf]

end Sys2Proof.Machine

/-! ### The fault latch and the position (R31, R33, R270) -/

namespace Sys2Proof.Machine

/-- A command is read only where its argument words stand after its header (R112). -/
theorem packetLen_le_of_decodeArgs {op : Op} {f : Bool} {args : List Word} {i : Instr}
    (h : decodeArgs op f args = .command i) : packetLen i ≤ args.length + 1 := by
  cases op with
  | setDrawOffset =>
    match args, h with
    | _ :: _, h => cases h; simp [packetLen, opOf, opLen]
  | setDrawArea =>
    match args, h with
    | _ :: _ :: _, h => cases h; simp [packetLen, opOf, opLen]
  | setDisplayMode =>
    match args, h with
    | _ :: _ :: _, h => cases h; simp [packetLen, opOf, opLen]
  | pushTriangle =>
    match args, h with
    | _ :: _ :: _ :: _ :: _ :: _ :: _, h => cases h; simp [packetLen, opOf, opLen]
  | _ => cases h; simp [packetLen, opOf, opLen]

/-- A command's packet lies inside the stream (R112, R114). -/
theorem packet_in_stream {stream : List Word} {pos : Nat} {i : Instr} (h : decode stream pos = .command i) :
    pos + packetLen i ≤ stream.length := by
  have words : packetLen i ≤ (stream.drop pos).length := by
    unfold decode decodeWords at h
    split at h
    · cases h
    · rename_i w0 args hdrop
      split at h
      · cases h
      · simpa [hdrop] using packetLen_le_of_decodeArgs h
  have := packetLen_pos i
  rw [List.length_drop] at words
  omega

/-- Latching a fault where none is latched keeps the latch well formed (R270, R271). -/
theorem State.FaultInv.raiseFault {s : State} (clear : s.fault.code = 0#3) (v : Violation) (w : Word) :
    (s.raiseFault v w).FaultInv := by
  obtain ⟨nonzero, notSeven⟩ := v.code_range
  rw [State.raiseFault_of_clear clear]
  exact ⟨notSeven, fun hzero => absurd hzero nonzero, fun _ => rfl⟩

/-- A completing command leaves an unlatched `FAULT` as it is; the other endings leave `POS` where it is (R31). -/
theorem State.FaultInv.of_effect {s t : State} {i : Instr} (h : s.FaultInv) (clear : s.fault.code = 0#3)
    (eff : Effect s i t) : t.FaultInv := by
  obtain ⟨notSeven, zero, pos⟩ := h
  rcases eff.pos_fault with ⟨-, hfault⟩ | rfl | ⟨rfl, -, -⟩
  · rw [← hfault] at notSeven zero clear
    exact ⟨notSeven, zero, fun latched => absurd clear latched⟩
  · exact .raiseFault clear _ _
  · exact ⟨notSeven, zero, pos⟩

/-- A command never takes `POS` past the words of its packet (R31, R112). -/
theorem State.PosInv.of_effect {s t : State} {i : Instr} (h : s.PosInv) (cmd : decode s.stream s.pos = .command i)
    (eff : Effect s i t) : t.PosInv := by
  rw [State.PosInv, eff.writesOnly.stream]
  rcases eff.pos_fault with ⟨hpos, -⟩ | rfl | ⟨rfl, -, -⟩
  · rw [hpos]
    exact packet_in_stream cmd
  · simpa using h
  · exact h

/-- Settles O56: the latch is written from all zero only, and the decoder reads whole packets only (R112, R270). -/
theorem latchAndPositionKept : Obligations.LatchAndPositionKept := by
  intro s t hfault hpos hstep
  cases stepOutcome_of_step hstep with
  | rested => exact ⟨hfault, hpos⟩
  | released => exact ⟨hfault, hpos⟩
  | sent w =>
    have grown : (s.tookTurn.sendWord w).PosInv := by
      simpa [State.PosInv] using Nat.le_succ_of_le hpos
    exact ⟨hfault, grown⟩
  | faulted v w clear => exact ⟨.raiseFault (s := s.tookTurn) clear v w, by simpa using hpos⟩
  | executed clear cmd _ eff =>
    exact ⟨State.FaultInv.of_effect (s := s.tookTurn) hfault clear eff,
      State.PosInv.of_effect (s := s.tookTurn) hpos cmd eff⟩

/-- A fault raised where none is latched leaves `POS` and is latched (R270, R271). -/
theorem State.raiseFault_latches (s : State) (clear : s.fault.code = 0#3) (v : Violation) (w : Word) :
    (s.raiseFault v w).pos = s.pos ∧ (s.raiseFault v w).fault.code ≠ 0#3 := by
  simp [clear, v.code_range]

/-- Settles O13: a completing command moves `POS` past its packet, a fault and a hold leave it (R31). -/
theorem posAdvancesByPacketLength : Obligations.PosAdvancesByPacketLength := by
  intro s t i clear hexec
  rw [encode_length]
  rcases exec_next hexec with ⟨v, -, rfl⟩ | ⟨-, eff⟩
  · exact .inr (.inl (s.raiseFault_latches clear v _))
  · rcases eff.pos_fault with done | rfl | held
    · exact .inl done
    · exact .inr (.inl (s.raiseFault_latches clear _ _))
    · exact .inr (.inr held)

end Sys2Proof.Machine

namespace Sys2Proof.Machine

/-- What a command writes, whether it executes or faults (R45). -/
theorem exec_writesOnly {s t : State} {i : Instr} (h : exec i s = .next t) : WritesOnly i s t := by
  rcases exec_next h with ⟨v, -, rfl⟩ | ⟨-, eff⟩
  · exact .raiseFault _ _ _ _
  · exact eff.writesOnly

/-- A command that faults or holds writes nothing but `FAULT` (R31, R45, R270). -/
theorem exec_fault_or_hold {s t : State} {i : Instr} (h : exec i s = .next t)
    (rest : t.fault ≠ s.fault ∨ t.pos = s.pos) : t = { s with fault := t.fault } := by
  rcases exec_next h with ⟨v, -, rfl⟩ | ⟨-, eff⟩
  · exact State.raiseFault_eq _ _ _
  · rcases eff.pos_fault with ⟨hpos, hfault⟩ | rfl | ⟨rfl, -, -⟩
    · have := packetLen_pos i
      rcases rest with latched | stayed
      · exact absurd hfault latched
      · omega
    · exact State.raiseFault_eq _ _ _
    · rfl

/-- An OPEN that the environment refuses writes `OUT`, `POS` and the draw's bookkeeping at most (R45, R141). -/
theorem exec_open_failed {s t : State} {i : Instr} (h : exec i s = .next t) (isOpen : opOf i = .openCore)
    (no : s.openOk = false) :
    t = { s with
      out := t.out, pos := t.pos, fault := t.fault, openAnswers := t.openAnswers, openDraws := t.openDraws } := by
  rcases exec_next h with ⟨v, -, rfl⟩ | ⟨-, eff⟩
  · unfold State.raiseFault
    split <;> rfl
  · cases eff with
    | opened p yes => rw [no] at yes; cases yes
    | openFailed => rfl
    | _ => cases isOpen

/-- The release port's step (R247). -/
theorem step_release {s : State} (h : s.turns.head? = some .release) : step s = .next s.tookTurn.releaseFrame := by
  unfold step turnStep
  cases hturns : s.turns with
  | nil => rw [hturns] at h; cases h
  | cons a ts => rw [hturns] at h; cases h; simp [State.tookTurn, hturns]

/-- Settles O16: R45's table is `WritesOnly` (R45, R247). -/
theorem writeSets : Obligations.WriteSets := by
  refine ⟨fun i s t h => ?_, fun s h => step_release h⟩
  have w := exec_writesOnly h
  exact ⟨w.cfg, w.stream, w.turns, w.lifecycle, w.isPal, w.drawOffset, w.drawArea, w.displayMode, w.fb, w.present,
    w.presentHeld, w.envBound, w.videoBound, w.out, exec_open_failed h, exec_fault_or_hold h⟩

/-- A command that executes appends at most one event (R43). -/
theorem Effect.out_append {s t : State} {i : Instr} (eff : Effect s i t) :
    ∃ es : List Event, t.out = s.out ++ es ∧ es.length ≤ 1 := by
  cases eff with
  | opened => exact ⟨[.openResult true], rfl, le_rfl⟩
  | openFailed => exact ⟨[.openResult false], rfl, le_rfl⟩
  | reported => exact ⟨[.avInfo (avInfo s)], rfl, le_rfl⟩
  | finalized =>
    cases bound : s.videoBound
    · exact ⟨[], by simp [bound], Nat.zero_le 1⟩
    · exact ⟨[.videoRefresh (snapshot s)], by simp [bound], le_rfl⟩
  | _ => exact ⟨[], by simp, Nat.zero_le 1⟩

/-- Settles O17: only a command that executes writes `OUT` (R43, R45). -/
theorem outIsAppendOnly : Obligations.OutIsAppendOnly := by
  intro s t hstep
  cases stepOutcome_of_step hstep with
  | executed _ _ _ eff => exact eff.out_append
  | _ => exact ⟨[], by simp, Nat.zero_le 1⟩

/-- The A/V record is a function of the configuration, the region and the display mode (R144). -/
theorem avInfo_congr {s t : State} (hcfg : t.cfg = s.cfg) (hpal : t.isPal = s.isPal)
    (hmode : t.displayMode = s.displayMode) : avInfo t = avInfo s := by
  simp [avInfo, hcfg, hpal, hmode]

/-- A command other than OPEN and SET_DISPLAY_MODE leaves the A/V record alone (R45, R143). -/
theorem Effect.avInfo_eq {s t : State} {i : Instr} (eff : Effect s i t)
    (other : opOf i ∉ [Op.openCore, .setDisplayMode]) : avInfo t = avInfo s := by
  have w := eff.writesOnly
  have notOpen : opOf i ≠ .openCore := fun hop => other (by simp [hop])
  exact avInfo_congr w.cfg (not_not.1 (mt w.isPal notOpen)) (not_not.1 (mt w.displayMode other))

/-- Settles O25: the record's registers are written by OPEN and SET_DISPLAY_MODE only (R45, R143). -/
theorem avInfoIsStable : Obligations.AvInfoIsStable := by
  intro s t hstep
  cases stepOutcome_of_step hstep with
  | rested => exact .inl rfl
  | released => exact .inl rfl
  | sent => exact .inl rfl
  | faulted => exact .inl (avInfo_congr (by simp) (by simp) (by simp))
  | @executed i _ _ cmd _ eff =>
    cases i with
    | openCore p => exact .inr (.inl ⟨p, cmd⟩)
    | setDisplayMode x y w h d => exact .inr (.inr ⟨x, y, w, h, d, cmd⟩)
    | _ => exact .inl (eff.avInfo_eq (by simp [opOf]))

end Sys2Proof.Machine

/-! ### No step stops the machine (R72) -/

namespace Sys2Proof.Machine

/-- With a legal display mode a command answers a next state: the window it reads or clears is in the framebuffer. -/
theorem exec_goes_on {s : State} (legal : modeInRange s.cfg s.displayMode = true) (i : Instr) :
    ∃ t, exec i s = .next t := by
  obtain ⟨body, hbody, goesOn⟩ := exec_eq_guarded i
  rw [hbody, guarded]
  split
  · exact ⟨_, rfl⟩
  · exact goesOn s (windowInFb_of_inRange legal)

/-- With a legal display mode the command processor's turn answers a next state. -/
theorem coreStep_goes_on {s : State} (legal : modeInRange s.cfg s.displayMode = true) :
    ∃ t, coreStep s = .next t := by
  unfold coreStep
  split
  · split
    · exact ⟨_, rfl⟩
    · exact ⟨_, rfl⟩
    · exact ⟨_, rfl⟩
    · exact exec_goes_on legal _
  · exact ⟨_, rfl⟩

/-- Settles O58: the host's turns always go on, the command processor's with a legal mode (R37, R72). -/
theorem noStepStops : Obligations.NoStepStops := by
  intro s legal
  unfold step turnStep
  split
  · exact coreStep_goes_on legal
  · exact coreStep_goes_on (s := { s with turns := _ }) legal
  · exact ⟨_, rfl⟩
  · exact ⟨_, rfl⟩

end Sys2Proof.Machine

/-! ### Registers hidden while Closed (R46) -/

namespace Sys2Proof.Machine

/-- R46's registers at the fixed values of `State.hideClosed`, in any lifecycle state. -/
def State.blankHidden (s : State) : State :=
  { s with
    isPal := false
    drawOffset := ⟨0, 0⟩
    drawArea := ⟨0, 0, 0, 0⟩
    displayMode := ⟨0, 0, 0, 0, false⟩
    fb := [] }

theorem State.hideClosed_of_closed {s : State} (h : s.lifecycle = .closed) : s.hideClosed = s.blankHidden := by
  simp [State.hideClosed, State.blankHidden, h]

theorem State.hideClosed_of_ne_closed {s : State} (h : s.lifecycle ≠ .closed) : s.hideClosed = s := by
  unfold State.hideClosed
  split <;> simp_all

/-- In Closed, what `State.blankHidden` forgets is hidden anyway. -/
theorem mapNext_hideClosed_blankHidden {s : State} (h : s.lifecycle = .closed) :
    mapNext State.hideClosed (.next s.blankHidden) = mapNext State.hideClosed (.next s) := by
  rw [mapNext, mapNext, State.hideClosed_of_closed h, State.hideClosed_of_closed (s := s.blankHidden) h]
  rfl

theorem State.raiseFault_blankHidden (v : Violation) (w : Word) (s : State) :
    s.blankHidden.raiseFault v w = (s.raiseFault v w).blankHidden := by
  by_cases clear : s.fault.code = 0#3
  · rw [State.raiseFault_of_clear clear, State.raiseFault_of_clear (s := s.blankHidden) clear]
    rfl
  · rw [State.raiseFault_of_latched clear, State.raiseFault_of_latched (s := s.blankHidden) clear]

/-- In Closed a fault is raised alike whatever the hidden registers hold. -/
theorem mapNext_hideClosed_raiseFault {s : State} (h : s.lifecycle = .closed) (v : Violation) (w : Word) :
    mapNext State.hideClosed (.next (s.blankHidden.raiseFault v w)) =
      mapNext State.hideClosed (.next (s.raiseFault v w)) := by
  rw [State.raiseFault_blankHidden, mapNext_hideClosed_blankHidden (by simpa using h)]

/-- In Closed no command's outcome shows the hidden registers: three commands execute there (R248), and of them OPEN
overwrites every hidden register where it leaves Closed (R50). -/
theorem mapNext_hideClosed_exec_blankHidden {s : State} (h : s.lifecycle = .closed) (i : Instr) :
    mapNext State.hideClosed (exec i s.blankHidden) = mapNext State.hideClosed (exec i s) := by
  cases row : legality s.cfg.strictSetters i s.lifecycle with
  | some v =>
    rw [exec_of_violation row, exec_of_violation (s := s.blankHidden) row]
    exact mapNext_hideClosed_raiseFault h v _
  | none =>
    cases i with
    | openCore p =>
      rw [exec, exec, execOpenCore, execOpenCore, guarded_ok row, guarded_ok (s := s.blankHidden) row]
      have sameDraw : s.blankHidden.openOk = s.openOk := rfl
      cases draw : s.openOk
      · rw [sameDraw, draw]
        exact mapNext_hideClosed_blankHidden
          (s := State.complete (.openCore p) (State.emit (.openResult false) s.takeDraw)) h
      · rw [sameDraw, draw]
        rfl
    | registerEnvCallback =>
      exact mapNext_hideClosed_blankHidden (s := State.complete .registerEnvCallback { s with envBound := true }) h
    | registerVideoCallback =>
      exact mapNext_hideClosed_blankHidden (s := State.complete .registerVideoCallback { s with videoBound := true }) h
    | _ => rw [h] at row; cases row

/-- In Closed the command processor's turn does not show the hidden registers. -/
theorem mapNext_hideClosed_coreStep_blankHidden {s : State} (h : s.lifecycle = .closed) :
    mapNext State.hideClosed (coreStep s.blankHidden) = mapNext State.hideClosed (coreStep s) := by
  have sameFault : s.blankHidden.fault = s.fault := rfl
  have sameVerdict : decode s.blankHidden.stream s.blankHidden.pos = decode s.stream s.pos := rfl
  rw [coreStep, coreStep, sameFault, sameVerdict]
  split_ifs
  · cases decode s.stream s.pos with
    | endOfStream => exact mapNext_hideClosed_blankHidden h
    | incomplete => exact mapNext_hideClosed_blankHidden h
    | illegal w0 => exact mapNext_hideClosed_raiseFault h _ w0
    | command i => exact mapNext_hideClosed_exec_blankHidden h i
  · exact mapNext_hideClosed_blankHidden h

/-- A step does not show what `State.hideClosed` hides (R46). -/
theorem mapNext_hideClosed_step_hideClosed (s : State) :
    mapNext State.hideClosed (step s.hideClosed) = mapNext State.hideClosed (step s) := by
  by_cases h : s.lifecycle = .closed
  · rw [State.hideClosed_of_closed h]
    have sameTurns : s.blankHidden.turns = s.turns := rfl
    rw [step, step, turnStep, turnStep, sameTurns]
    match s.turns with
    | [] => exact mapNext_hideClosed_coreStep_blankHidden h
    | .core :: ts => exact mapNext_hideClosed_coreStep_blankHidden (s := { s with turns := ts }) h
    | .release :: ts =>
      exact mapNext_hideClosed_blankHidden (s := State.releaseFrame { s with turns := ts }) h
    | .send w :: ts =>
      exact mapNext_hideClosed_blankHidden (s := State.sendWord w { s with turns := ts }) h
  · rw [State.hideClosed_of_ne_closed h]

/-- Outcomes with equal images are equal stops or next states with equal images. -/
theorem eq_or_next_of_mapNext_eq {f : State → State} {o o' : Host.Outcome State Fault Refusal}
    (h : mapNext f o = mapNext f o') : o = o' ∨ ∃ u v, o = .next u ∧ o' = .next v ∧ f u = f v := by
  cases o with
  | next u =>
    cases o' with
    | next v => exact .inr ⟨u, v, rfl, rfl, Host.Outcome.next.inj h⟩
    | _ => cases h
  | _ =>
    cases o' with
    | next v => cases h
    | _ => exact .inl h

/-- Equal first steps make equal runs. -/
theorem run_succ_congr {s t : State} (h : step s = step t) (k : Nat) :
    Host.Core.run core (k + 1) s = Host.Core.run core (k + 1) t := by
  cases hs : step s with
  | next u => rw [run_next k hs, run_next k (h.symm.trans hs)]
  | fault r => rw [run_fault k hs, run_fault k (h.symm.trans hs)]
  | refused r => rw [run_refused k hs, run_refused k (h.symm.trans hs)]

/-- Settles O18, by induction on the number of steps: equal images stay equal along a run (R46). -/
theorem closedRegistersUnobservable : Obligations.ClosedRegistersUnobservable := by
  intro k
  induction k with
  | zero =>
    intro s t h
    rw [run_zero, run_zero]
    exact congrArg Host.Outcome.next h
  | succ k ih =>
    intro s t h
    have hstep : mapNext State.hideClosed (step s) = mapNext State.hideClosed (step t) := by
      rw [← mapNext_hideClosed_step_hideClosed s, h, mapNext_hideClosed_step_hideClosed t]
    rcases eq_or_next_of_mapNext_eq hstep with same | ⟨u, v, hs, ht, huv⟩
    · rw [run_succ_congr same]
    · rw [run_next k hs, run_next k ht]
      exact ih u v huv

end Sys2Proof.Machine

/-! ### Power-up, OPEN and CLOSE (R49, R50, R140, R142) -/

namespace Sys2Proof.Machine

/-- Settles O15: the power-up state by definition (R49, R300). -/
theorem powerUpValues : Obligations.PowerUpValues := ⟨rfl, rfl, rfl, rfl, rfl, rfl, rfl, rfl⟩

/-- Settles O22: the row of R248, then the two answers of the draw (R50, R140). -/
theorem openResult : Obligations.OpenResult := by
  refine ⟨fun p => ?_, fun s p clear notClosed => ?_, fun s p _ closed no => ?_, fun s p _ closed yes => ?_⟩
  · simp [encode, argWords]
  · have row : legality s.cfg.strictSetters (.openCore p) s.lifecycle = some .alreadyOpen :=
      whileClosed_of_ne_closed notClosed
    rw [exec_violation clear row, headerWord_openCore]
    rfl
  · have row : legality s.cfg.strictSetters (.openCore p) s.lifecycle = none := by rw [closed]; rfl
    rw [exec, execOpenCore, guarded_ok row, no]
    rfl
  · have row : legality s.cfg.strictSetters (.openCore p) s.lifecycle = none := by rw [closed]; rfl
    rw [exec, execOpenCore, guarded_ok row, yes]
    exact ⟨_, rfl, rfl, fun x y _ _ => fbRead_blank s.cfg x y⟩

/-- Settles O23: the row of R248 in each lifecycle state (R142). -/
theorem closeResult : Obligations.CloseResult := by
  refine ⟨by simp [encode, argWords], fun s clear => ⟨fun closed => ?_, fun inFrame => ?_, fun idle => ?_⟩⟩
  · have row : legality s.cfg.strictSetters .closeCore s.lifecycle = some .notOpen := by rw [closed]; rfl
    rw [exec_violation clear row, headerWord_closeCore]
    rfl
  · have row : legality s.cfg.strictSetters .closeCore s.lifecycle = some .frameInProgress := by rw [inFrame]; rfl
    rw [exec_violation clear row, headerWord_closeCore]
    rfl
  · have row : legality s.cfg.strictSetters .closeCore s.lifecycle = none := by rw [idle]; rfl
    rw [exec, execCloseCore, guarded_ok row]
    rfl

/-- A power-up state with a legal configuration has nothing presented, held or emitted (R49, R300). -/
theorem boot_lifecycleInv {cfg : Config} (legal : cfg.wf) (stream : List Word) (turns : List Turn)
    (answers : List Bool) : (State.boot cfg stream turns answers).LifecycleInv where
  cfg_wf := legal
  mode_legal := by
    obtain ⟨-, -, -, -, hmode⟩ := legal
    exact hmode
  held_bound := nofun
  held_idle := nofun
  held_present := nofun
  inFrame_free := nofun
  closed_none := fun _ => rfl
  present_wf := nofun
  out_wf := fun _ hmem => absurd hmem List.not_mem_nil

/-- The default configuration is legal (R6). -/
theorem defaults_wf : Config.defaults.wf := by decide

/-- Settles O57: `State.reset` is the power-up state of the default configuration (R49, R300). -/
theorem invariantsAtPowerUp : Obligations.InvariantsAtPowerUp := by
  refine ⟨boot_lifecycleInv defaults_wf [] [] [], fun cfg stream turns answers legal => ?_⟩
  refine ⟨boot_lifecycleInv legal stream turns answers, ⟨rfl, rfl⟩, ?_, Nat.zero_le _⟩
  exact ⟨by simp [State.boot, State.reset, FaultLatch.none], fun _ => rfl, fun latched => absurd rfl latched⟩

end Sys2Proof.Machine

/-! ### The framebuffer: canonical form, reads and writes (R70 to R73, R84, R209) -/

namespace Sys2Proof.Machine

/-- The framebuffer's invariants speak of the configuration and the cells only. -/
theorem State.FbInv.congr {s t : State} (h : s.FbInv) (sameCfg : t.cfg = s.cfg) (sameFb : t.fb = s.fb) : t.FbInv := by
  rw [State.FbInv, sameCfg, sameFb]
  exact h

/-- OPEN blanks the cells, a clearing PREPARE_FRAME and PUSH_TRIANGLE write inside the framebuffer, and no other command
writes a cell (R45, R50, R193, R243). -/
theorem State.FbInv.of_effect {s t : State} {i : Instr} (h : s.FbInv) (eff : Effect s i t) : t.FbInv := by
  obtain ⟨canonical, inside⟩ := h
  cases eff with
  | opened => exact ⟨fbBlank_wf _, rfl⟩
  | preparedClear _ _ window =>
    exact ⟨State.clearWindow_wf (s := s.enterFrame) canonical, State.clearWindow_below (s := s.enterFrame) window inside⟩
  | drawn => exact ⟨State.draw_wf canonical, State.draw_below inside⟩
  | _ => exact State.FbInv.congr ⟨canonical, inside⟩ (by simp) (by simp)

/-- Settles O20: of a step's cases only a command that executes can write a cell (R70, R72). -/
theorem framebufferStaysCanonical : Obligations.FramebufferStaysCanonical := by
  intro s t h hstep
  cases stepOutcome_of_step hstep with
  | executed _ _ _ eff => exact State.FbInv.of_effect (s := s.tookTurn) h eff
  | _ => exact h.congr (by simp) (by simp)

/-- After a sequence of writes a cell holds the value of the last write that names it, or its own where none does
(R72, R73). -/
theorem fbRead_writeAll {cfg : Config} {fb : Memory} {x y : Nat} (hx : x < cfg.fbW)
    (canonical : Memory.wf cfg.background fb = true) (ws : List ((Nat × Nat) × Cell))
    (inside : ∀ w ∈ ws, w.1.1 < cfg.fbW) :
    fbRead cfg (fbWriteAll cfg fb ws) x y = (ws.reverse.lookup (x, y)).getD (fbRead cfg fb x y) := by
  induction ws using List.reverseRecOn with
  | nil => rfl
  | append_singleton ws w ih =>
    have last : fbWriteAll cfg fb (ws ++ [w]) = fbWrite cfg (fbWriteAll cfg fb ws) w.1.1 w.1.2 w.2 :=
      List.foldl_concat ..
    have same : cellIndex cfg x y = cellIndex cfg w.1.1 w.1.2 ↔ (x, y) = w.1 :=
      (cellIndex_inj hx (inside w (by simp))).trans Prod.mk_inj.symm
    rw [last, List.reverse_concat, fbRead, fbWrite, Memory.read_write (fbWriteAll_wf canonical), List.lookup_cons]
    by_cases named : (x, y) = w.1
    · simp [same.2 named, named]
    · rw [if_neg (mt same.1 named), beq_false_of_ne named]
      exact ih fun u hu => inside u (by simp [hu])

end Sys2Proof.Machine

/-! ### No command but FINALIZE_FRAME reads a cell (R73, R209) -/

namespace Sys2Proof.Machine

/-- The state with other framebuffer cells. -/
def State.withFb (m : Memory) (s : State) : State := { s with fb := m }

/-- A command body reads no cell of `s`: with other cells it answers the same but for its own cells, of which it sets
some to values that do not depend on the old ones. -/
def FbBlind (s : State) (body : State → Host.Outcome State Fault Refusal) : Prop :=
  ∃ (update : Memory → Memory) (written : Nat → Nat → Option Cell),
    (∀ m, body (s.withFb m) = mapNext (State.withFb (update m)) (body s)) ∧
    ∀ m, Memory.wf s.cfg.background m = true → ∀ x y, x < s.cfg.fbW →
      fbRead s.cfg (update m) x y = (written x y).getD (fbRead s.cfg m x y)

namespace FbBlind

variable {s : State} {body : State → Host.Outcome State Fault Refusal}

/-- A body that keeps whatever cells it is given. -/
theorem of_keeps (h : ∀ m, body (s.withFb m) = mapNext (State.withFb m) (body s)) : FbBlind s body :=
  ⟨id, fun _ _ => none, h, fun _ _ _ _ _ => rfl⟩

/-- A body that blanks the cells (R50). -/
theorem of_blanks (h : ∀ m, body (s.withFb m) = mapNext (State.withFb fbBlank) (body s)) : FbBlind s body :=
  ⟨fun _ => fbBlank, fun _ _ => some s.cfg.background, h, fun _ _ x y _ => fbRead_blank s.cfg x y⟩

/-- A body that makes a sequence of writes fixed beforehand: the last one that names a cell counts. -/
theorem of_writes (ws : List ((Nat × Nat) × Cell)) (inside : ∀ w ∈ ws, w.1.1 < s.cfg.fbW)
    (h : ∀ m, body (s.withFb m) = mapNext (State.withFb (fbWriteAll s.cfg m ws)) (body s)) : FbBlind s body :=
  ⟨fun m => fbWriteAll s.cfg m ws, fun x y => ws.reverse.lookup (x, y), h,
    fun _ canonical _ _ hx => fbRead_writeAll hx canonical ws inside⟩

end FbBlind

theorem State.raiseFault_withFb (v : Violation) (w : Word) (m : Memory) (s : State) :
    (s.withFb m).raiseFault v w = (s.raiseFault v w).withFb m := by
  by_cases clear : s.fault.code = 0#3
  · rw [State.raiseFault_of_clear clear, State.raiseFault_of_clear (s := s.withFb m) clear]
    rfl
  · rw [State.raiseFault_of_latched clear, State.raiseFault_of_latched (s := s.withFb m) clear]

/-- Raising a fault keeps the cells (R270). -/
theorem fbBlind_raiseFault (s : State) (v : Violation) (w : Word) : FbBlind s fun s => .next (s.raiseFault v w) :=
  .of_keeps fun m => congrArg Host.Outcome.next (s.raiseFault_withFb v w m)

/-- Bodies that agree on the states with other cells. -/
theorem FbBlind.congr {s : State} {body body' : State → Host.Outcome State Fault Refusal} (h : FbBlind s body)
    (same : ∀ m, body' (s.withFb m) = body (s.withFb m)) : FbBlind s body' := by
  obtain ⟨update, written, outcome, cells⟩ := h
  refine ⟨update, written, fun m => ?_, cells⟩
  rw [same, outcome, show body' s = body s from same s.fb]

/-- The legality table reads no cell (R248). -/
theorem FbBlind.guarded {s : State} {body : State → Host.Outcome State Fault Refusal} (h : FbBlind s body) (i : Instr) :
    FbBlind s fun s => Machine.guarded i s body := by
  cases row : legality s.cfg.strictSetters i s.lifecycle with
  | some v => exact (fbBlind_raiseFault s v _).congr fun m => guarded_violation (s := s.withFb m) row
  | none => exact h.congr fun m => guarded_ok (s := s.withFb m) row

/-- A test that reads no cell, between two such bodies. -/
theorem FbBlind.ite {s : State} {test : State → Prop} [DecidablePred test]
    {yes no : State → Host.Outcome State Fault Refusal} (same : ∀ m, test (s.withFb m) ↔ test s)
    (hyes : test s → FbBlind s yes) (hno : ¬ test s → FbBlind s no) :
    FbBlind s fun s => if test s then yes s else no s := by
  by_cases h : test s
  · exact (hyes h).congr fun m => if_pos ((same m).2 h)
  · exact (hno h).congr fun m => if_neg (mt (same m).1 h)

/-- The key fact of R73, command by command: FINALIZE_FRAME apart, only a successful OPEN, a clearing PREPARE_FRAME and
PUSH_TRIANGLE do anything to the cells, and none of them reads one. -/
theorem fbBlind_exec (i : Instr) (s : State) (other : i ≠ .finalizeFrame) : FbBlind s (exec i) := by
  cases i with
  | finalizeFrame => exact absurd rfl other
  | openCore p =>
    refine .guarded ?_ _
    have sameDraw (m : Memory) : (s.withFb m).openOk = s.openOk := rfl
    cases draw : s.openOk
    · exact .of_keeps fun m => by simp only [sameDraw, draw]; rfl
    · exact .of_blanks fun m => by simp only [sameDraw, draw]; rfl
  | prepareFrame =>
    refine .guarded (.ite (fun _ => .rfl) (fun _ => .of_keeps fun _ => rfl) fun _ => ?_) _
    refine .ite (fun _ => .rfl) (fun _ => ?_) fun _ => .of_keeps fun _ => rfl
    refine .ite (fun _ => .rfl) (fun window => ?_) fun _ => .of_keeps fun _ => rfl
    refine .of_writes ((windowCells s.displayMode).map fun c => (c, s.cfg.background)) (fun w hw => ?_) fun _ => rfl
    obtain ⟨c, hc, rfl⟩ := List.mem_map.1 hw
    exact (windowCells_in_fb window c hc).1
  | setDisplayMode x y w h d =>
    refine .guarded (.ite (fun _ => .rfl) (fun _ => ?_) fun _ => fbBlind_raiseFault s _ _) _
    exact .of_keeps fun _ => rfl
  | pushTriangle v0 v1 v2 d =>
    refine .guarded ?_ _
    exact .of_writes (pixelWrites (trianglePixels s.cfg s.drawOffset s.drawArea s.displayMode.d24 v0 v1 v2 d))
      (fun w hw => (pixelWrites_in_fb w hw).1) fun _ => rfl
  | registerEnvCallback => exact .of_keeps fun _ => rfl
  | registerVideoCallback => exact .of_keeps fun _ => rfl
  | _ =>
    refine .guarded ?_ _
    exact .of_keeps fun _ => rfl

/-- Settles O19: R73's key fact, read off at each part of the statement (R73, R209). -/
theorem framebufferReadByFinalizeOnly : Obligations.FramebufferReadByFinalizeOnly := by
  intro i s other
  obtain ⟨update, written, outcome, cells⟩ := fbBlind_exec i s other
  replace outcome (m : Memory) : exec i { s with fb := m } = mapNext (State.withFb (update m)) (exec i s) := outcome m
  refine ⟨fun m => ?_, written, fun m t canonical ht x y hx _ => ?_⟩
  · rw [outcome]
    cases exec i s <;> rfl
  · have sameCfg : t.cfg = s.cfg := (exec_writesOnly ht).cfg
    have newFb : t.fb = update m := by
      rw [outcome] at ht
      cases hs : exec i s with
      | next u => rw [hs] at ht; cases ht; rfl
      | _ => rw [hs] at ht; cases ht
    rw [sameCfg, newFb, cells m canonical x y hx]

end Sys2Proof.Machine

/-! ### Overlapping triangles (R84) -/

namespace Sys2Proof.Machine

/-- Every pixel of a triangle is a cell of the framebuffer (R193). -/
theorem trianglePixels_in_fb {cfg : Config} {o : DrawOffset} {a : DrawArea} {d24 d : Bool} {v0 v1 v2 : Vertex}
    {q : Point × Cell} (hq : q ∈ trianglePixels cfg o a d24 v0 v1 v2 d) :
    0 ≤ q.1.x ∧ q.1.x < cfg.fbW ∧ 0 ≤ q.1.y ∧ q.1.y < cfg.fbH := by
  obtain ⟨-, hp, -⟩ := mem_trianglePixels.1 hq
  exact clip_in_fb (scanned_in_clip (mem_coveredPoints.1 hp).1)

/-- A triangle's writes are its pixels: no coordinate is cut off (R209). -/
theorem mem_pixelWrites_trianglePixels {cfg : Config} {o : DrawOffset} {a : DrawArea} {d24 d : Bool}
    {v0 v1 v2 : Vertex} {x y : Nat} {v : Cell} :
    ((x, y), v) ∈ pixelWrites (trianglePixels cfg o a d24 v0 v1 v2 d) ↔
      (⟨⟨x, y⟩, v⟩ : Point × Cell) ∈ trianglePixels cfg o a d24 v0 v1 v2 d := by
  refine List.mem_map.trans ⟨?_, fun h => ⟨_, h, rfl⟩⟩
  rintro ⟨⟨⟨px, py⟩, c⟩, hq, heq⟩
  obtain ⟨hx, -, hy, -⟩ := trianglePixels_in_fb hq
  simp only [Prod.mk.injEq] at heq hx hy
  obtain ⟨⟨rfl, rfl⟩, rfl⟩ := heq
  rwa [Int.toNat_of_nonneg hx, Int.toNat_of_nonneg hy]

/-- A triangle writes one value to a cell: the shade there (R210). -/
theorem trianglePixels_value_unique {cfg : Config} {o : DrawOffset} {a : DrawArea} {d24 d : Bool} {v0 v1 v2 : Vertex}
    {p : Point} {v v' : Cell} (h : (p, v) ∈ trianglePixels cfg o a d24 v0 v1 v2 d)
    (h' : (p, v') ∈ trianglePixels cfg o a d24 v0 v1 v2 d) : v' = v := by
  obtain ⟨-, -, hv⟩ := mem_trianglePixels.1 h
  obtain ⟨-, -, hv'⟩ := mem_trianglePixels.1 h'
  exact hv'.trans hv.symm

section

variable {s : State} {v0 v1 v2 : Vertex} {d : Bool} {x y : Nat}

/-- A cell the triangle covers holds the triangle's value (R84, R209). -/
theorem State.fbRead_draw_of_mem (hx : x < s.cfg.fbW) (canonical : Memory.wf s.cfg.background s.fb = true) (v : Cell)
    (hv : (⟨⟨x, y⟩, v⟩ : Point × Cell) ∈
      trianglePixels s.cfg s.drawOffset s.drawArea s.displayMode.d24 v0 v1 v2 d) :
    fbRead s.cfg (s.draw v0 v1 v2 d).fb x y = v := by
  rw [State.draw_fb, fbRead_writeAll hx canonical _ fun w hw => (pixelWrites_in_fb w hw).1]
  cases last : List.lookup (x, y) (List.reverse _) with
  | none =>
    have unnamed := List.lookup_eq_none_iff.1 last _ (List.mem_reverse.2 (mem_pixelWrites_trianglePixels.2 hv))
    exact absurd unnamed (by simp)
  | some v' =>
    obtain ⟨l, l', found, -⟩ := List.lookup_eq_some_iff.1 last
    have hv' : ((x, y), v') ∈ pixelWrites _ := List.mem_reverse.1 (by rw [found]; simp)
    exact trianglePixels_value_unique hv (mem_pixelWrites_trianglePixels.1 hv')

/-- A cell the triangle does not cover keeps its value (R84, R209). -/
theorem State.fbRead_draw_of_not_mem (hx : x < s.cfg.fbW) (canonical : Memory.wf s.cfg.background s.fb = true)
    (hn : ∀ v, (⟨⟨x, y⟩, v⟩ : Point × Cell) ∉
      trianglePixels s.cfg s.drawOffset s.drawArea s.displayMode.d24 v0 v1 v2 d) :
    fbRead s.cfg (s.draw v0 v1 v2 d).fb x y = fbRead s.cfg s.fb x y := by
  refine fbRead_writeAll_other hx canonical (fun w hw => (pixelWrites_in_fb w hw).1) ?_
  rintro ⟨c, v⟩ hw rfl
  exact hn v (mem_pixelWrites_trianglePixels.1 hw)

/-- In a frame PUSH_TRIANGLE draws and completes (R190, R248). -/
theorem exec_pushTriangle_of_inFrame (h : s.lifecycle = .inFrame) (v0 v1 v2 : Vertex) (d : Bool) :
    exec (.pushTriangle v0 v1 v2 d) s = .next (State.complete (.pushTriangle v0 v1 v2 d) (s.draw v0 v1 v2 d)) := by
  have row : legality s.cfg.strictSetters (.pushTriangle v0 v1 v2 d) s.lifecycle = none := by rw [h]; rfl
  rw [exec, execPushTriangle, guarded_ok row]

end

/-- Settles O21: the second triangle is drawn over the cells the first one left (R84). -/
theorem lastWriteWins : Obligations.LastWriteWins := by
  intro s a0 a1 a2 b0 b1 b2 da db _ inFrame canonical
  have canonical' : Memory.wf s.cfg.background (s.draw a0 a1 a2 da).fb = true := State.draw_wf canonical
  refine ⟨_, _, exec_pushTriangle_of_inFrame inFrame a0 a1 a2 da,
    exec_pushTriangle_of_inFrame (s := State.complete _ (s.draw a0 a1 a2 da)) inFrame b0 b1 b2 db, fun x y hx _ => ?_⟩
  exact ⟨State.fbRead_draw_of_mem (s := State.complete _ (s.draw a0 a1 a2 da)) hx canonical',
    State.fbRead_draw_of_not_mem (s := State.complete _ (s.draw a0 a1 a2 da)) hx canonical',
    State.fbRead_draw_of_mem hx canonical, State.fbRead_draw_of_not_mem hx canonical⟩

end Sys2Proof.Machine

/-! ### The presented frame while it is held (R90, R305) -/

namespace Sys2Proof.Machine

/-- A command that leaves a frame held leaves it as it is: the commands that write `PRESENT` are illegal in Idle, where a
frame is held, except CLOSE, which drops the hold (R45, R142, R248). -/
theorem Effect.present_eq_of_held {s t : State} {i : Instr} (eff : Effect s i t) (inv : s.LifecycleInv)
    (row : legality s.cfg.strictSetters i s.lifecycle = none) (held : s.presentHeld = true)
    (stillHeld : t.presentHeld = true) : t.present = s.present := by
  have idle : s.lifecycle = .idle := inv.held_idle held
  by_contra changed
  have writer := eff.writesOnly.present changed
  rw [idle] at row
  cases eff with
  | opened => cases row
  | openFailed => cases row
  | closed => cases stillHeld
  | finalized => cases row
  | _ => exact absurd writer (by simp [opOf])

/-- Settles O54: of a step's cases only a command that executes can write `PRESENT` (R90, R305). -/
theorem heldFrameIsNotWritten : Obligations.HeldFrameIsNotWritten := by
  intro s t inv hstep held stillHeld
  cases stepOutcome_of_step hstep with
  | executed _ _ row eff => exact eff.present_eq_of_held inv.tookTurn row held stillHeld
  | _ => simp

end Sys2Proof.Machine

/-! ### The command at `POS` (R82, R111) -/

namespace Sys2Proof.Machine

/-- Settles O7: the turn taken changes neither `FAULT` nor the words at `POS` (R82, R114). -/
theorem stepRunsDecodedCommand : Obligations.StepRunsDecodedCommand := by
  intro s i clear turn cmd
  rw [step_of_coreTurn turn, coreStep, State.tookTurn_fault, if_pos clear, State.tookTurn_stream, State.tookTurn_pos,
    cmd]

end Sys2Proof.Machine

/-! ### The byte image (R77) -/

namespace Sys2Proof.Machine

@[simp] theorem bytesLE_length (n v : Nat) : (bytesLE n v).length = n := by
  induction n generalizing v with
  | zero => rfl
  | succ n ih => rw [bytesLE, List.length_cons, ih]

/-- A word's bytes make the word again, whatever bytes follow (R77). -/
theorem wordsOfBytes_wordBytes_append (w : Word) (rest : List Byte) :
    wordsOfBytes (wordBytes w ++ rest) = w :: wordsOfBytes rest := by
  have fits : w.toNat < 2 ^ 32 := w.isLt
  simp only [wordBytes, bytesLE, List.cons_append, List.nil_append, wordsOfBytes, List.cons.injEq, and_true]
  apply BitVec.eq_of_toNat_eq
  simp only [BitVec.toNat_ofNat]
  omega

theorem wordsOfBytes_flatMap_wordBytes (ws : List Word) : wordsOfBytes (ws.flatMap wordBytes) = ws := by
  induction ws with
  | nil => rfl
  | cons w ws ih => rw [List.flatMap_cons, wordsOfBytes_wordBytes_append, ih]

theorem wordBytes_map_toNat (w : Word) : (wordBytes w).map BitVec.toNat =
    [w.toNat % 256, w.toNat / 256 % 256, w.toNat / 65536 % 256, w.toNat / 16777216 % 256] := by
  simp [wordBytes, bytesLE, Nat.div_div_eq_div_mul]

theorem pixelBytes_map_toNat_16 (c : Cell) :
    (pixelBytes false c).map BitVec.toNat = [c.toNat % 256, c.toNat / 256 % 256] := by
  simp [pixelBytes, bytesLE]

/-- A cell has 24 bits, so the fourth byte is zero (R70, R77). -/
theorem pixelBytes_map_toNat_24 (c : Cell) :
    (pixelBytes true c).map BitVec.toNat = [c.toNat % 256, c.toNat / 256 % 256, c.toNat / 65536, 0] := by
  have fits : c.toNat < 2 ^ 24 := c.isLt
  have third : c.toNat / 65536 % 256 = c.toNat / 65536 := Nat.mod_eq_of_lt (by omega)
  have fourth : c.toNat / 16777216 = 0 := Nat.div_eq_of_lt fits
  simp [pixelBytes, bytesLE, Nat.div_div_eq_div_mul, third, fourth]

@[simp] theorem pixelBytes_length (d24 : Bool) (c : Cell) : (pixelBytes d24 c).length = if d24 then 4 else 2 :=
  bytesLE_length _ _

/-- Lists of one length end to end have the product as length. -/
theorem length_flatten_of_uniform {α : Type} {rows : List (List α)} {k : Nat}
    (uniform : ∀ row ∈ rows, row.length = k) : rows.flatten.length = rows.length * k := by
  rw [List.length_flatten, List.sum_eq_card_nsmul _ k (by simpa using uniform), List.length_map, smul_eq_mul]

/-- In lists of one length end to end, the `n`-th list is found at `n` times that length. -/
theorem take_drop_flatten_of_uniform {α : Type} {rows : List (List α)} {k : Nat}
    (uniform : ∀ row ∈ rows, row.length = k) {n : Nat} {row : List α} (hn : rows[n]? = some row) :
    (rows.flatten.drop (n * k)).take k = row := by
  induction rows generalizing n with
  | nil => cases hn
  | cons first rows ih =>
    obtain ⟨len, rest⟩ := List.forall_mem_cons.1 uniform
    rw [List.flatten_cons]
    cases n with
    | zero =>
      cases hn
      rw [Nat.zero_mul, List.drop_zero, List.take_left' len]
    | succ n =>
      rw [Nat.succ_mul, Nat.add_comm, ← List.drop_drop, List.drop_left' len]
      exact ih rest hn

/-- In lists of one length end to end, item `i` of the `n`-th list is found at its place by rows. -/
theorem getElem?_flatten_of_uniform {α : Type} {rows : List (List α)} {k : Nat}
    (uniform : ∀ row ∈ rows, row.length = k) {n i : Nat} {row : List α} (hn : rows[n]? = some row) (hi : i < k) :
    rows.flatten[n * k + i]? = row[i]? := by
  rw [← take_drop_flatten_of_uniform uniform hn, List.getElem?_take_of_lt hi, List.getElem?_drop]

/-- A well-formed frame has the pixel of each of its columns and rows (R39). -/
theorem Frame.wf.exists_pixel {f : Frame} (h : f.wf) {i j : Nat} (hi : i < f.w.toNat) (hj : j < f.h.toNat) :
    ∃ c : Cell, (f.pix[j]?.bind fun row => row[i]?) = some c ∧ f.pix.flatten[j * f.w.toNat + i]? = some c := by
  obtain ⟨-, -, rows, columns, -⟩ := h
  have hrow : f.pix[j]? = some (f.pix[j]'(by omega)) := List.getElem?_eq_getElem _
  have hlen := columns _ (List.getElem_mem (by omega : j < f.pix.length))
  refine ⟨f.pix[j][i]'(by omega), ?_, ?_⟩
  · rw [hrow]
    exact List.getElem?_eq_getElem _
  · rw [getElem?_flatten_of_uniform columns hrow hi]
    exact List.getElem?_eq_getElem _

/-- Every pixel of a frame has the same number of bytes (R77). -/
theorem pixelBytes_uniform (d24 : Bool) (cs : List Cell) :
    ∀ bytes ∈ cs.map (pixelBytes d24), bytes.length = if d24 then 4 else 2 := by
  simp

theorem frameBytes_length {f : Frame} (h : f.wf) :
    (frameBytes f).length = f.w.toNat * f.h.toNat * (if f.d24 then 4 else 2) := by
  obtain ⟨-, -, rows, columns, -⟩ := h
  rw [frameBytes, List.flatMap_def, length_flatten_of_uniform (pixelBytes_uniform _ _), List.length_map,
    length_flatten_of_uniform columns, rows, Nat.mul_comm f.h.toNat]

/-- The bytes of a pixel stand in the image at its place by rows (R77). -/
theorem frameBytes_at {f : Frame} {n : Nat} {c : Cell} (hc : f.pix.flatten[n]? = some c) :
    ((frameBytes f).drop (n * if f.d24 then 4 else 2)).take (if f.d24 then 4 else 2) = pixelBytes f.d24 c := by
  rw [frameBytes, List.flatMap_def]
  exact take_drop_flatten_of_uniform (pixelBytes_uniform _ _) (by rw [List.getElem?_map, hc]; rfl)

/-- Settles O60: a word's and a pixel's bytes are base-256 digits, and pixels of one size stand end to end (R77). -/
theorem byteImage : Obligations.ByteImage := by
  refine ⟨wordsOfBytes_flatMap_wordBytes, wordBytes_map_toNat,
    fun c => ⟨pixelBytes_map_toNat_16 c, pixelBytes_map_toNat_24 c⟩, fun f h => ⟨frameBytes_length h, ?_⟩⟩
  intro i j hi hj
  obtain ⟨c, hpix, hflat⟩ := h.exists_pixel hi hj
  exact ⟨c, hpix, frameBytes_at hflat⟩

end Sys2Proof.Machine

/-! ### Decoding a packet (R100 to R107, R114) -/

namespace Sys2Proof

/-- Only a command whose opcode uses the flag has it set (R101, R102). -/
theorem opUsesFlag_of_flagOf {i : Instr} (h : flagOf i = true) : opUsesFlag (opOf i) = true := by
  cases i with
  | openCore => rfl
  | setDisplayMode => rfl
  | pushTriangle => rfl
  | _ => cases h

/-- The header's check passes a packed header whose flag is zero or used (R108, R109). -/
theorem decodeHeader_packHeader {op : Op} {f : Bool} (flag : f = true → opUsesFlag op = true) :
    decodeHeader (packHeader (opByte op) f) = some (op, f) := by
  have used : ¬(f = true ∧ opUsesFlag op = false) := fun ⟨set, unused⟩ => by simp [flag set] at unused
  simp [decodeHeader, used]

theorem decodeHeader_headerWord (i : Instr) : decodeHeader (headerWord i) = some (opOf i, flagOf i) :=
  decodeHeader_packHeader opUsesFlag_of_flagOf

/-- The header's check passes no other word (R101, R108, R109). -/
theorem eq_packHeader_of_decodeHeader {w : Word} {op : Op} {f : Bool} (h : decodeHeader w = some (op, f)) :
    w = packHeader (opByte op) f ∧ (f = true → opUsesFlag op = true) := by
  unfold decodeHeader at h
  split at h
  · cases h
  · rename_i byte
    split_ifs at h with rsv flag
    cases h
    rw [opByte_of_opOfByte byte, packHeader_fields (not_not.1 rsv)]
    simpa using flag

/-- The argument words of a command read as its operands, whatever words follow (R104 to R106). -/
theorem decodeArgs_argWords_append (i : Instr) (rest : List Word) :
    decodeArgs (opOf i) (flagOf i) (argWords i ++ rest) = .command i := by
  cases i with
  | setDrawOffset => simp [opOf, argWords, decodeArgs]
  | setDrawArea => simp [opOf, argWords, decodeArgs]
  | setDisplayMode => simp [opOf, flagOf, argWords, decodeArgs]
  | pushTriangle => simp [opOf, flagOf, argWords, decodeArgs, vertexOf]
  | _ => rfl

theorem decodeWords_encode_append (i : Instr) (rest : List Word) : decodeWords (encode i ++ rest) = .command i := by
  rw [encode, List.cons_append, decodeWords, decodeHeader_headerWord]
  exact decodeArgs_argWords_append i rest

/-- Too few argument words for the opcode (R112). -/
theorem decodeArgs_of_short {op : Op} {args : List Word} (f : Bool) (short : args.length + 1 < opLen op) :
    decodeArgs op f args = .incomplete := by
  cases op with
  | setDrawOffset =>
    match args, short with
    | [], _ => rfl
  | setDrawArea =>
    match args, short with
    | [], _ => rfl
    | [_], _ => rfl
  | setDisplayMode =>
    match args, short with
    | [], _ => rfl
    | [_], _ => rfl
  | pushTriangle =>
    match args, short with
    | [], _ => rfl
    | [_], _ => rfl
    | [_, _], _ => rfl
    | [_, _, _], _ => rfl
    | [_, _, _, _], _ => rfl
    | [_, _, _, _, _], _ => rfl
  | _ => simp [opLen] at short

/-- With enough argument words the command read is the one whose packet they end (R103 to R106). -/
theorem decodeArgs_of_enough {op : Op} {f : Bool} {args : List Word} (flag : f = true → opUsesFlag op = true)
    (enough : opLen op ≤ args.length + 1) :
    ∃ i, decodeArgs op f args = .command i ∧ opOf i = op ∧ flagOf i = f ∧ argWords i = args.take (opLen op - 1) := by
  have clear : opUsesFlag op = false → false = f := fun unused => by simpa [unused, eq_comm] using flag
  cases op with
  | openCore => exact ⟨.openCore f, rfl, rfl, rfl, rfl⟩
  | setDrawOffset =>
    match args, enough with
    | a :: _, _ => exact ⟨_, rfl, rfl, clear rfl, by simp [argWords, opLen]⟩
  | setDrawArea =>
    match args, enough with
    | a :: b :: _, _ => exact ⟨_, rfl, rfl, clear rfl, by simp [argWords, opLen]⟩
  | setDisplayMode =>
    match args, enough with
    | a :: b :: _, _ => exact ⟨_, rfl, rfl, rfl, by simp [argWords, opLen]⟩
  | pushTriangle =>
    match args, enough with
    | p0 :: c0 :: p1 :: c1 :: p2 :: c2 :: _, _ =>
      exact ⟨_, rfl, rfl, rfl, by simp [argWords, opLen, vertexOf]⟩
  | _ => exact ⟨_, rfl, rfl, clear rfl, rfl⟩

/-- A legal header waits for the words of its packet (R112). -/
theorem decodeWords_of_short {w0 : Word} {op : Op} {f : Bool} {args : List Word}
    (legal : decodeHeader w0 = some (op, f)) (short : args.length + 1 < opLen op) : decodeWords (w0 :: args) = .incomplete := by
  rw [decodeWords, legal]
  exact decodeArgs_of_short f short

/-- A legal header with the words of its packet is a command, and the packet is that command's (R103, R111, R114). -/
theorem decodeWords_of_enough {w0 : Word} {op : Op} {f : Bool} {args : List Word}
    (legal : decodeHeader w0 = some (op, f)) (enough : opLen op ≤ args.length + 1) :
    ∃ i, decodeWords (w0 :: args) = .command i ∧ opOf i = op ∧ encode i = w0 :: args.take (opLen op - 1) := by
  obtain ⟨packed, flag⟩ := eq_packHeader_of_decodeHeader legal
  obtain ⟨i, cmd, hop, hflag, hargs⟩ := decodeArgs_of_enough flag enough
  refine ⟨i, ?_, hop, ?_⟩
  · rw [decodeWords, legal]
    exact cmd
  · rw [encode, headerWord, hop, hflag, hargs, packed]

/-- The words a command is read from begin with its packet (R100, R103). -/
theorem take_packetLen_of_decodeWords {ws : List Word} {i : Instr} (h : decodeWords ws = .command i) :
    ws.take (packetLen i) = encode i := by
  cases ws with
  | nil => cases h
  | cons w0 args =>
    cases legal : decodeHeader w0 with
    | none => simp [decodeWords, legal] at h
    | some header =>
      obtain ⟨op, f⟩ := header
      by_cases enough : opLen op ≤ args.length + 1
      · obtain ⟨j, cmd, hop, packet⟩ := decodeWords_of_enough legal enough
        cases cmd.symm.trans h
        rw [packet, packetLen, hop, List.take_cons (hop ▸ packetLen_pos i)]
      · rw [decodeWords_of_short legal (by omega)] at h
        cases h

/-! ### The decoder and the opcode map (R107 to R109) -/

/-- The row of the opcode map that an opcode has (R107). -/
def rowOf (op : Op) : OpRow := ⟨(opByte op).toNat, opLen op, opUsesFlag op⟩

/-- The decoder assigns the opcode bytes that the map assigns (R107, R108). -/
theorem opRow_toNat (b : BitVec 8) : opRow b.toNat = (opOfByte b).map rowOf := by
  have all : ∀ n : Fin 256, opRow n = (opOfByte (BitVec.ofFin n)).map rowOf := by decide +kernel
  exact all b.toFin

/-- The header's check passes the words for which the opcode map has a row (R108, R109). -/
theorem headerRow_eq (w : Word) : headerRow w = (decodeHeader w).map fun header => rowOf header.1 := by
  have rsv : rsvField w = 0#23 ↔ w.toNat / 2 % 2 ^ 23 = 0 := by
    rw [← rsvField_toNat]
    exact BitVec.toNat_inj.symm
  have flag : ∀ op, ¬(flagField w = true ∧ opUsesFlag op = false) ↔ w.toNat % 2 = 0 ∨ (rowOf op).flagUsed = true := by
    intro op
    rw [flagField_eq, rowOf]
    cases opUsesFlag op <;> simp
  unfold headerRow decodeHeader
  rw [← opField_toNat, opRow_toNat]
  cases opOfByte (opField w) with
  | none => rfl
  | some op =>
    simp only [Option.map_some, ← rsv, ← flag]
    by_cases zero : rsvField w = 0#23
    · by_cases unused : flagField w = true ∧ opUsesFlag op = false
      · simp [zero, unused]
      · simp [zero, unused]
    · simp [zero]

end Sys2Proof

namespace Sys2Proof.Machine

/-- Settles O1: the header and the argument words of a packet read back as its fields (R101 to R107, R114). -/
theorem decodeOfEncode : Obligations.DecodeOfEncode := by
  intro i pre rest
  rw [decode, List.append_assoc, List.drop_left]
  exact decodeWords_encode_append i rest

/-- Settles O2: the decoder reads a command from words that begin with its packet (R100, R103, R114). -/
theorem encodeOfDecode : Obligations.EncodeOfDecode :=
  fun _ _ _ h => take_packetLen_of_decodeWords h

/-- Settles O3: the decoder's header check is the opcode map's, and its opcode's length the row's (R107 to R112). -/
theorem decoderVerdicts : Obligations.DecoderVerdicts := by
  intro w0 args
  rw [headerRow_eq]
  cases legal : decodeHeader w0 with
  | none => exact ⟨fun _ => by rw [decodeWords, legal], nofun, nofun⟩
  | some header =>
    obtain ⟨op, f⟩ := header
    refine ⟨nofun, ?_, ?_⟩
    · rintro _ ⟨⟩ short
      exact decodeWords_of_short legal short
    · rintro _ ⟨⟩ enough
      obtain ⟨i, cmd, -, packet⟩ := decodeWords_of_enough legal enough
      exact ⟨i, cmd, packet⟩

/-- Settles O4: a packet's length is its opcode's (R103). -/
theorem packetLengths : Obligations.PacketLengths := by
  have bare : ∀ op ∈ [Op.openCore, .closeCore, .getSystemAvInfo, .refreshVariables, .registerEnvCallback,
      .registerVideoCallback, .prepareFrame, .finalizeFrame], opLen op = 1 := by decide
  have byOp : ∀ i, (encode i).length = opLen (opOf i) := encode_length
  refine ⟨fun i h => ?_, fun i h => ?_, fun i h => ?_, fun i h => ?_, fun i h => ?_, byOp⟩
  · rw [byOp, bare _ h]
  all_goals rw [byOp, h, opLen]

/-- A 16-bit number's value in two's complement (R9). -/
theorem signedHalf_eq (h : Half) :
    signedHalf h = if h.toNat < 32768 then (h.toNat : Int) else (h.toNat : Int) - 65536 := by
  rw [signedHalf, BitVec.toInt_eq_toNat_cond]
  split_ifs <;> omega

/-- Settles O5: the halves are the word's remainder and quotient by 2^16, and each layout reads its halves (R104, R105). -/
theorem argumentWords : Obligations.ArgumentWords := by
  refine ⟨fun w => ⟨?_, ?_⟩, fun _ => rfl, fun _ _ _ _ _ _ => rfl, fun _ _ _ _ _ _ => rfl, by decide,
    fun w => ⟨loHalf_toNat w, hiHalf_toNat w⟩, fun _ _ => rfl, fun _ _ => rfl, fun _ _ => rfl, by decide⟩
  · simp only [signedHalf_eq, loHalf_toNat, Nat.reducePow]
  · simp only [signedHalf_eq, hiHalf_toNat, Nat.reducePow]

/-- Settles O6, by evaluating the decoder on each vector. -/
theorem decodedVectors : Obligations.DecodedVectors :=
  ⟨by decide, by decide, by decide, by decide, by decide, by decide, by decide, by decide⟩

end Sys2Proof.Machine

/-! ### An incomplete packet (R112) -/

namespace Sys2Proof.Machine

/-- A waiting packet has no effect on the command processor's turn (R112). -/
theorem step_of_waiting {s : State} (turn : s.CoreTurn) (wait : s.Waiting) : step s = .next s.tookTurn := by
  obtain ⟨clear, incomplete⟩ := wait
  rw [step_of_coreTurn turn, coreStep, State.tookTurn_fault, if_pos clear, State.tookTurn_stream, State.tookTurn_pos,
    incomplete]

/-- A run that is short of the stream's end is not over (R309). -/
theorem not_final_of_drop {s : State} {w : Word} {rest : List Word} (h : s.stream.drop s.pos = w :: rest) :
    ¬ s.Final := by
  rintro ⟨-, atEnd, -⟩
  rw [atEnd, List.drop_length] at h
  cases h

/-- The host producer's step (R82, R285). -/
theorem step_send {s : State} {w : Word} {ts : List Turn} (h : s.turns = .send w :: ts) :
    step s = .next { s with stream := s.stream ++ [w], turns := ts } := by
  rw [step, turnStep, h]
  rfl

/-- A waiting packet outlasts any number of the command processor's turns (R112). -/
theorem run_of_waiting (n : Nat) {k : Nat} {s : State} {ts : List Turn} (wait : s.Waiting)
    (turns : s.turns = List.replicate k Turn.core ++ ts) :
    Host.Core.run core (k + n) s = Host.Core.run core n { s with turns := ts } := by
  induction k generalizing s with
  | zero =>
    cases s
    cases turns
    rw [Nat.zero_add]
  | succ k ih =>
    rw [List.replicate_succ, List.cons_append] at turns
    have go : step s = .next s.tookTurn := step_of_waiting (.inr (by rw [turns]; rfl)) wait
    rw [Nat.succ_add, run_next _ go]
    exact ih (s := s.tookTurn) wait (by rw [State.tookTurn_turns, turns]; rfl)

/-- Words sent one after another stand at the stream's end in their order (R82). -/
theorem run_sends (n : Nat) {ws : List Word} {s : State} {ts : List Turn} (turns : s.turns = ws.map Turn.send ++ ts) :
    Host.Core.run core (ws.length + n) s = Host.Core.run core n { s with stream := s.stream ++ ws, turns := ts } := by
  induction ws generalizing s with
  | nil =>
    cases s
    cases turns
    rw [List.length_nil, Nat.zero_add, List.append_nil]
  | cons w ws ih =>
    rw [List.length_cons, Nat.succ_add, run_next _ (step_send turns), ih rfl, List.append_assoc]
    rfl

/-- A run of one step is the step. -/
theorem run_one (s : State) : Host.Core.run core 1 s = step s := by
  cases h : step s with
  | next t => exact (run_next 0 h).trans (run_zero t)
  | fault r => exact run_fault 0 h
  | refused r => exact run_refused 0 h

/-- Settles O9: a waiting packet keeps the state until the words that complete it are in the stream (R112). -/
theorem incompletePacketHolds : Obligations.IncompletePacketHolds := by
  refine ⟨fun s w0 rest r clear turn words row short => ?_, fun s w ts h => step_send h,
    fun k s ws i ts wait turns cmd => ?_⟩
  · obtain ⟨-, waits, -⟩ := decoderVerdicts w0 rest
    have wait : s.Waiting := ⟨clear, by rw [decode, words, waits r row short]⟩
    exact ⟨step_of_waiting turn wait, not_final_of_drop words, fun done => ⟨done, .inr wait⟩⟩
  · have sent : ∀ n, Host.Core.run core (k + ws.length + n) s =
        Host.Core.run core n { s with stream := s.stream ++ ws, turns := Turn.core :: ts } := by
      intro n
      rw [Nat.add_assoc, run_of_waiting _ wait turns, run_sends n rfl]
    refine ⟨(sent 0).trans (run_zero _), ?_⟩
    rw [sent 1, run_one]
    exact stepRunsDecodedCommand _ i wait.1 (.inr rfl) cmd

end Sys2Proof.Machine

/-! ### The reserved color byte (R106) -/

namespace Sys2Proof.Machine

theorem colorChannel_r (c : Word) : colorChannel c .r = c.toNat / 65536 % 256 := by
  simp [colorChannel, Nat.shiftRight_eq_div_pow]

theorem colorChannel_g (c : Word) : colorChannel c .g = c.toNat / 256 % 256 := by
  simp [colorChannel, Nat.shiftRight_eq_div_pow]

theorem colorChannel_b (c : Word) : colorChannel c .b = c.toNat % 256 := by
  simp [colorChannel]

/-- The channels are functions of the low 24 bits (R106). -/
theorem colorChannel_congr {c c' : Word} (h : c.toNat % 2 ^ 24 = c'.toNat % 2 ^ 24) :
    colorChannel c = colorChannel c' := by
  funext k
  cases k with
  | r => rw [colorChannel_r, colorChannel_r]; omega
  | g => rw [colorChannel_g, colorChannel_g]; omega
  | b => rw [colorChannel_b, colorChannel_b]; omega

/-- A triangle with other colors at its vertices. -/
def Tri.recolor (t : Tri) (c0 c1 c2 : Word) : Tri := ⟨⟨t.v0.p, c0⟩, ⟨t.v1.p, c1⟩, ⟨t.v2.p, c2⟩⟩

theorem area_recolor (t : Tri) (c0 c1 c2 : Word) : area (t.recolor c0 c1 c2) = area t := rfl

/-- Coverage does not depend on colors, and normalisation exchanges them with their vertices (R198, R201). -/
theorem coveredPoints_normalise_recolor (c : Clip) (t : Tri) (c0 c1 c2 : Word) :
    coveredPoints c (normalise (t.recolor c0 c1 c2)) = coveredPoints c (normalise t) := by
  rw [normalise, normalise, area_recolor]
  split <;> rfl

section
variable {t : Tri} {c0 c1 c2 : Word} (h0 : colorChannel c0 = colorChannel t.v0.c)
  (h1 : colorChannel c1 = colorChannel t.v1.c) (h2 : colorChannel c2 = colorChannel t.v2.c)
include h0 h1 h2

/-- Interpolation reads the channels of the vertex colors only (R202). -/
theorem interpolate_recolor (p : Point) (k : Channel) : interpolate (t.recolor c0 c1 c2) p k = interpolate t p k := by
  simp only [interpolate, Tri.recolor, h0, h1, h2]
  rfl

theorem interpolate_normalise_recolor (p : Point) (k : Channel) :
    interpolate (normalise (t.recolor c0 c1 c2)) p k = interpolate (normalise t) p k := by
  rw [normalise, normalise, area_recolor]
  split
  · exact interpolate_recolor (t := ⟨t.v0, t.v2, t.v1⟩) h0 h2 h1 p k
  · exact interpolate_recolor h0 h1 h2 p k

/-- The pixel values read the vertex colors through interpolation only (R205 to R208). -/
theorem shade_normalise_recolor (d24 dither : Bool) (p : Point) :
    shade (normalise (t.recolor c0 c1 c2)) d24 dither p = shade (normalise t) d24 dither p := by
  simp only [shade, channelValue, interpolate_normalise_recolor h0 h1 h2]

end

/-- The pixels of a triangle do not depend on the reserved bytes of its colors (R106, R210). -/
theorem trianglePixels_recolor {v0 v1 v2 : Vertex} {c0 c1 c2 : Word} (h0 : colorChannel c0 = colorChannel v0.c)
    (h1 : colorChannel c1 = colorChannel v1.c) (h2 : colorChannel c2 = colorChannel v2.c) (cfg : Config) (o : DrawOffset)
    (a : DrawArea) (d24 d : Bool) :
    trianglePixels cfg o a d24 ⟨v0.x, v0.y, c0⟩ ⟨v1.x, v1.y, c1⟩ ⟨v2.x, v2.y, c2⟩ d =
      trianglePixels cfg o a d24 v0 v1 v2 d := by
  have recolored : translatedTri o ⟨v0.x, v0.y, c0⟩ ⟨v1.x, v1.y, c1⟩ ⟨v2.x, v2.y, c2⟩ =
      (translatedTri o v0 v1 v2).recolor c0 c1 c2 := rfl
  have sameShade := shade_normalise_recolor (t := translatedTri o v0 v1 v2) h0 h1 h2 d24 d
  simp only [trianglePixels, recolored, area_recolor, coveredPoints_normalise_recolor, sameShade]

/-- Settles O41: PUSH_TRIANGLE reads colors through their channels, and its header and length hold none (R106, R210). -/
theorem reservedColorByteIgnored : Obligations.ReservedColorByteIgnored := by
  refine ⟨fun c => ⟨colorChannel_r c, colorChannel_g c, colorChannel_b c⟩, fun s v0 v1 v2 c0 c1 c2 d h0 h1 h2 => ?_⟩
  have sameDraw : s.draw ⟨v0.x, v0.y, c0⟩ ⟨v1.x, v1.y, c1⟩ ⟨v2.x, v2.y, c2⟩ d = s.draw v0 v1 v2 d := by
    rw [State.draw, trianglePixels_recolor (colorChannel_congr h0) (colorChannel_congr h1) (colorChannel_congr h2)]
    rfl
  rw [exec, execPushTriangle, guarded, sameDraw]
  rfl

end Sys2Proof.Machine

/-! ### The words of events (R113) -/

namespace Sys2Proof.Machine

theorem eventWords_openResult (ok : Bool) : eventWords (.openResult ok) = [if ok then 1#32 else 0#32] := by
  cases ok <;> rfl

/-- The flags of the record's last word: `is_pal` in bit 1, the depth in bit 0 (R113). -/
theorem avInfoFlags_toNat (p d : Bool) :
    (BitVec.ofNat 16 (2 * p.toNat + d.toNat)).toNat = (if p then 2 else 0) + (if d then 1 else 0) := by
  cases p <;> cases d <;> rfl

/-- A frame's words are two and one for each pixel (R113). -/
theorem frameWords_length {f : Frame} (h : f.wf) : (frameWords f).length = 2 + f.w.toNat * f.h.toNat := by
  obtain ⟨-, -, rows, columns, -⟩ := h
  rw [frameWords, List.length_cons, List.length_cons, List.length_map, length_flatten_of_uniform columns, rows,
    Nat.mul_comm]
  omega

/-- The pixels' words follow the two header words (R113). -/
theorem frameWords_pixel {f : Frame} {n : Nat} {c : Cell} (hc : f.pix.flatten[n]? = some c) :
    (frameWords f)[2 + n]? = some (pixelWord c) := by
  rw [frameWords, Nat.add_comm, List.getElem?_cons_succ, List.getElem?_cons_succ, List.getElem?_map, hc]
  rfl

/-- A pixel's word is its value zero-extended (R113). -/
theorem pixelWord_toNat (c : Cell) : (pixelWord c).toNat = c.toNat := by
  have fits : c.toNat < 2 ^ 24 := c.isLt
  rw [pixelWord, BitVec.toNat_setWidth]
  exact Nat.mod_eq_of_lt (by omega)

/-- Settles O59: the packed words by their halves, and the pixels by rows after a frame's header (R113). -/
theorem eventWordLayout : Obligations.EventWordLayout := by
  have packed : ∀ lo hi : Half, (pairWord lo hi).toNat = hi.toNat * 65536 + lo.toNat := by
    intro lo hi
    rw [pairWord_toNat]
    omega
  refine ⟨eventWords_openResult, fun r => ?_, fun f h => ⟨frameWords_length h, ?_, fun i j hi hj => ?_⟩⟩
  · refine ⟨_, _, _, _, _, rfl, packed _ _, packed _ _, packed _ _, rfl, ?_⟩
    rw [packed, avInfoFlags_toNat, Nat.add_assoc]
  · refine ⟨_, _, rfl, packed _ _, ?_⟩
    cases f.d24 <;> rfl
  · obtain ⟨c, hpix, hflat⟩ := h.exists_pixel hi hj
    exact ⟨c, _, hpix, frameWords_pixel hflat, pixelWord_toNat c⟩

end Sys2Proof.Machine

/-! ### The region and the host's callbacks (R145 to R148) -/

namespace Sys2Proof.Machine

/-- OPEN's row of R248 lets it through in Closed only. -/
theorem eq_closed_of_whileClosed {l : Lifecycle} (h : whileClosed l = none) : l = .closed := by
  by_contra notClosed
  rw [whileClosed_of_ne_closed notClosed] at h
  cases h

/-- A command that changes `IS_PAL` is an OPEN with that region, and the draw said yes (R45, R148). -/
theorem Effect.opened_of_isPal_ne {s t : State} {i : Instr} (eff : Effect s i t) (changed : t.isPal ≠ s.isPal) :
    i = .openCore t.isPal ∧ s.openOk = true := by
  have isOpen := eff.writesOnly.isPal changed
  cases eff with
  | opened p yes => exact ⟨rfl, yes⟩
  | openFailed => exact absurd rfl changed
  | _ => cases isOpen

/-- Settles O28: of a step's cases only a command that executes changes `IS_PAL`, and R248 lets OPEN through in Closed. -/
theorem isPalWrittenByOpenOnly : Obligations.IsPalWrittenByOpenOnly := by
  intro s t hstep changed
  cases stepOutcome_of_step hstep with
  | rested => exact absurd rfl changed
  | released => exact absurd rfl changed
  | sent => exact absurd rfl changed
  | faulted => exact absurd (by simp) changed
  | executed _ cmd row eff =>
    obtain ⟨rfl, yes⟩ := eff.opened_of_isPal_ne changed
    exact ⟨t.isPal, cmd, eq_closed_of_whileClosed row, yes, rfl⟩

/-- Settles O26: NOT_OPEN by the row of R248 in Closed, else `POS` moves past the one word (R145). -/
theorem refreshVariablesResult : Obligations.RefreshVariablesResult := by
  refine ⟨by simp [encode, argWords], fun s clear => ⟨fun closed => ?_, fun notClosed => ?_⟩⟩
  · have row : legality s.cfg.strictSetters .refreshVariables s.lifecycle = some .notOpen := by rw [closed]; rfl
    rw [exec_violation clear row, headerWord_refreshVariables]
    rfl
  · have row : legality s.cfg.strictSetters .refreshVariables s.lifecycle = none := whileOpen_of_ne_closed notClosed
    rw [exec, execRefreshVariables, guarded_ok row]
    rfl

/-- REGISTER_ENV_CALLBACK completes in every lifecycle state (R146, R248). -/
theorem exec_registerEnvCallback (s : State) :
    exec .registerEnvCallback s = .next { s with envBound := true, pos := s.pos + 1 } := by
  have row : legality s.cfg.strictSetters .registerEnvCallback s.lifecycle = none := rfl
  rw [exec, execRegisterEnvCallback, guarded_ok row]
  rfl

/-- REGISTER_VIDEO_CALLBACK completes in every lifecycle state (R147, R248). -/
theorem exec_registerVideoCallback (s : State) :
    exec .registerVideoCallback s = .next { s with videoBound := true, pos := s.pos + 1 } := by
  have row : legality s.cfg.strictSetters .registerVideoCallback s.lifecycle = none := rfl
  rw [exec, execRegisterVideoCallback, guarded_ok row]
  rfl

/-- `ENV_BOUND` stays set: the one command that writes it sets it (R45, R146). -/
theorem exec_keeps_envBound {s t : State} {i : Instr} (h : exec i s = .next t) (bound : s.envBound = true) :
    t.envBound = true := by
  by_cases same : t.envBound = s.envBound
  · rw [same, bound]
  · obtain rfl := (exec_writesOnly h).envBound same
    rw [exec_registerEnvCallback] at h
    cases h
    rfl

/-- `VIDEO_BOUND` stays set: the one command that writes it sets it (R45, R147). -/
theorem exec_keeps_videoBound {s t : State} {i : Instr} (h : exec i s = .next t) (bound : s.videoBound = true) :
    t.videoBound = true := by
  by_cases same : t.videoBound = s.videoBound
  · rw [same, bound]
  · obtain rfl := (exec_writesOnly h).videoBound same
    rw [exec_registerVideoCallback] at h
    cases h
    rfl

/-- Settles O27: no row of R248 faults a registration, and no write set clears a bit (R45, R146, R147). -/
theorem registerCallbackResults : Obligations.RegisterCallbackResults := by
  refine ⟨by simp [encode, argWords], by simp [encode, argWords], fun s _ => ?_⟩
  exact ⟨exec_registerEnvCallback s, exec_registerVideoCallback s,
    fun i t h => ⟨exec_keeps_envBound h, exec_keeps_videoBound h⟩⟩

end Sys2Proof.Machine

/-! ### The draw-state setters (R170 to R174) -/

namespace Sys2Proof.Machine

/-- Where the setters' row of R248 lets a command through (R174). -/
theorem setterRow_of_allowed {strict : Bool} {l : Lifecycle}
    (h : l = .inFrame ∨ (l = .idle ∧ strict = false)) : setterRow strict l = none := by
  rcases h with rfl | ⟨rfl, rfl⟩ <;> rfl

section

variable {s : State} {i : Instr} {header : Word} (word : headerWord i = header) (clear : s.fault.code = 0#3)
  (setter : legality s.cfg.strictSetters i s.lifecycle = setterRow s.cfg.strictSetters s.lifecycle)
include word clear setter

/-- A setter latches NOT_OPEN in Closed (R174, R248). -/
theorem exec_setter_of_closed (closed : s.lifecycle = .closed) :
    exec i s = .next { s with fault := ⟨2, header, s.pos⟩ } := by
  have row : legality s.cfg.strictSetters i s.lifecycle = some .notOpen := by rw [setter, closed]; rfl
  rw [exec_violation clear row, word]
  rfl

/-- A setter latches NOT_IN_FRAME in Idle with `STRICT_SETTERS` (R174, R248). -/
theorem exec_setter_of_strict (idle : s.lifecycle = .idle) (strict : s.cfg.strictSetters = true) :
    exec i s = .next { s with fault := ⟨4, header, s.pos⟩ } := by
  have row : legality s.cfg.strictSetters i s.lifecycle = some .notInFrame := by rw [setter, idle, strict]; rfl
  rw [exec_violation clear row, word]
  rfl

end

/-- Settles O29: the setters' row of R248, then the register (R170). -/
theorem setDrawOffsetResult : Obligations.SetDrawOffsetResult := by
  intro s x y clear
  have word := headerWord_setDrawOffset x y
  refine ⟨congrArg (· :: _) word, exec_setter_of_closed word clear rfl, exec_setter_of_strict word clear rfl,
    fun allowed => ?_⟩
  have row : legality s.cfg.strictSetters (.setDrawOffset x y) s.lifecycle = none := setterRow_of_allowed allowed
  rw [exec, execSetDrawOffset, guarded_ok row]
  rfl

/-- Settles O30: the setters' row of R248, then the register, with no test of the rectangle (R171). -/
theorem setDrawAreaResult : Obligations.SetDrawAreaResult := by
  intro s x y w h clear
  have word := headerWord_setDrawArea x y w h
  refine ⟨congrArg (· :: _) word, exec_setter_of_closed word clear rfl, exec_setter_of_strict word clear rfl,
    fun allowed => ?_⟩
  have row : legality s.cfg.strictSetters (.setDrawArea x y w h) s.lifecycle = none := setterRow_of_allowed allowed
  rw [exec, execSetDrawArea, guarded_ok row]
  rfl

/-- Where its row of R248 lets it through, SET_DISPLAY_MODE tests the range, then writes its register or faults (R172). -/
theorem exec_setDisplayMode_of_allowed {s : State}
    (allowed : s.lifecycle = .inFrame ∨ (s.lifecycle = .idle ∧ s.cfg.strictSetters = false)) (x y w h : Half) (d : Bool) :
    exec (.setDisplayMode x y w h d) s =
      if modeInRange s.cfg ⟨x, y, w, h, d⟩ then .next { s with displayMode := ⟨x, y, w, h, d⟩, pos := s.pos + 3 }
      else .next (s.raiseFault .displayModeRange (headerWord (.setDisplayMode x y w h d))) := by
  have row : legality s.cfg.strictSetters (.setDisplayMode x y w h d) s.lifecycle = none := setterRow_of_allowed allowed
  rw [exec, execSetDisplayMode, guarded_ok row]
  rfl

/-- Settles O31: the setters' row of R248 first, then the range test, then the register (R172, R173, R278). -/
theorem setDisplayModeResult : Obligations.SetDisplayModeResult := by
  intro s x y w h d clear
  have word := headerWord_setDisplayMode x y w h d
  refine ⟨congrArg (· :: _) word, exec_setter_of_closed word clear rfl, exec_setter_of_strict word clear rfl,
    fun allowed outside => ?_, fun allowed inside => ?_⟩
  · have refused : ¬ modeInRange s.cfg ⟨x, y, w, h, d⟩ = true := mt of_decide_eq_true outside
    rw [exec_setDisplayMode_of_allowed allowed, if_neg refused, State.raiseFault_of_clear clear, word]
    rfl
  · have legal : modeInRange s.cfg ⟨x, y, w, h, d⟩ = true := decide_eq_true inside
    rw [exec_setDisplayMode_of_allowed allowed, if_pos legal]

end Sys2Proof.Machine

/-! ### Orientation, weights and the fill rule (R196 to R201) -/

namespace Sys2Proof.Machine

/-- The same triangle, read from its next vertex on. -/
def Tri.rotate (t : Tri) : Tri := ⟨t.v1, t.v2, t.v0⟩

/-- The same triangle, wound the other way. -/
def Tri.swap (t : Tri) : Tri := ⟨t.v0, t.v2, t.v1⟩

@[simp] theorem area_rotate (t : Tri) : area t.rotate = area t := by
  simp only [area, edge, Tri.rotate]
  ring

@[simp] theorem area_swap (t : Tri) : area t.swap = -area t := by
  simp only [area, edge, Tri.swap]
  ring

theorem normalise_of_neg {t : Tri} (h : area t < 0) : normalise t = t.swap := if_pos h

theorem normalise_of_nonneg {t : Tri} (h : 0 ≤ area t) : normalise t = t := if_neg (not_lt.2 h)

/-- Normalisation leaves the area's magnitude (R198). -/
theorem area_normalise (t : Tri) : area (normalise t) = |area t| := by
  rcases lt_or_ge (area t) 0 with h | h
  · rw [normalise_of_neg h, area_swap, abs_of_neg h]
  · rw [normalise_of_nonneg h, abs_of_nonneg h]

/-- The weights of a point sum to the area (R199). -/
theorem weights_sum (t : Tri) (p : Point) : weight0 t p + weight1 t p + weight2 t p = area t := by
  simp only [weight0, weight1, weight2, area, edge]
  ring

/-- At vertex 0 its own weight is the whole area (R199). -/
theorem weights_at_v0 (t : Tri) : weight0 t t.v0.p = area t ∧ weight1 t t.v0.p = 0 ∧ weight2 t t.v0.p = 0 := by
  refine ⟨?_, ?_, ?_⟩
  · simp only [weight0, area, edge]
    ring
  · simp only [weight1, edge]
    ring
  · simp only [weight2, edge]
    ring

theorem topLeft_iff {a b : Point} : topLeft a b = true ↔ b.y - a.y < 0 ∨ (b.y - a.y = 0 ∧ 0 < b.x - a.x) :=
  decide_eq_true_iff

theorem edgeOwns_iff {w : Int} {tl : Bool} : edgeOwns w tl = true ↔ 0 < w ∨ (w = 0 ∧ tl = true) := by
  simp [edgeOwns]

/-- The fill rule, edge by edge (R201). -/
theorem covered_iff {t : Tri} {p : Point} :
    covered t p = true ↔
      (0 < weight0 t p ∨ (weight0 t p = 0 ∧ topLeft t.v1.p t.v2.p = true)) ∧
      (0 < weight1 t p ∨ (weight1 t p = 0 ∧ topLeft t.v2.p t.v0.p = true)) ∧
      (0 < weight2 t p ∨ (weight2 t p = 0 ∧ topLeft t.v0.p t.v1.p = true)) := by
  simp only [covered, Bool.and_eq_true, edgeOwns_iff, and_assoc]

/-- A covered point lies on no edge's outer side. -/
theorem weights_nonneg {t : Tri} {p : Point} (h : covered t p = true) :
    0 ≤ weight0 t p ∧ 0 ≤ weight1 t p ∧ 0 ≤ weight2 t p := by
  obtain ⟨h0, h1, h2⟩ := covered_iff.1 h
  omega

/-- Settles O35: the weights at vertices 1 and 2 are those at vertex 0 of the rotated triangle. -/
theorem normalisedWeights : Obligations.NormalisedWeights := by
  intro t p
  have fillRule := @covered_iff t p
  simp only [topLeft_iff] at fillRule
  have atV1 : weight1 t t.v1.p = area t := (weights_at_v0 t.rotate).1.trans (area_rotate t)
  have atV2 : weight2 t t.v2.p = area t :=
    (weights_at_v0 t.rotate.rotate).1.trans ((area_rotate _).trans (area_rotate t))
  exact ⟨fun _ _ _ => rfl, rfl, ⟨rfl, rfl, rfl⟩, fillRule,
    ⟨area_normalise t, normalise_of_neg, normalise_of_nonneg⟩, weights_sum t p, (weights_at_v0 t).1, atV1, atV2⟩

end Sys2Proof.Machine

/-! ### Weighted sums over the vertices: interpolation and the datapath's widths (R192, R202, R203) -/

namespace Sys2Proof.Machine

/-- A quantity of the vertices, weighted at a point; `interpolate` divides that of a channel by the area (R202). -/
def weightedSum (t : Tri) (p : Point) (f : ScreenVertex → Int) : Int :=
  weight0 t p * f t.v0 + weight1 t p * f t.v1 + weight2 t p * f t.v2

/-- The channel of a vertex color, as a quantity of the vertex. -/
def vertexChannel (k : Channel) (v : ScreenVertex) : Int := colorChannel v.c k

theorem interpolate_eq (t : Tri) (p : Point) (k : Channel) :
    interpolate t p k = weightedSum t p (vertexChannel k) / area t := rfl

theorem weightedSum_rotate (t : Tri) (p : Point) (f : ScreenVertex → Int) :
    weightedSum t.rotate p f = weightedSum t p f := add_rotate _ _ _ |>.symm

theorem interpolate_rotate (t : Tri) (p : Point) (k : Channel) : interpolate t.rotate p k = interpolate t p k := by
  rw [interpolate_eq, interpolate_eq, weightedSum_rotate, area_rotate]

/-- On a covered point the weights are not negative and sum to the area, so bounds of a quantity at the vertices, times
the area, are bounds of its weighted sum. -/
theorem weightedSum_bounds {t : Tri} {p : Point} {f : ScreenVertex → Int} {lo hi : Int} (h : covered t p = true)
    (h0 : lo ≤ f t.v0 ∧ f t.v0 ≤ hi) (h1 : lo ≤ f t.v1 ∧ f t.v1 ≤ hi) (h2 : lo ≤ f t.v2 ∧ f t.v2 ≤ hi) :
    area t * lo ≤ weightedSum t p f ∧ weightedSum t p f ≤ area t * hi := by
  obtain ⟨w0, w1, w2⟩ := weights_nonneg h
  rw [← weights_sum t p, add_mul, add_mul, add_mul, add_mul]
  constructor
  · exact add_le_add_three (mul_le_mul_of_nonneg_left h0.1 w0) (mul_le_mul_of_nonneg_left h1.1 w1)
      (mul_le_mul_of_nonneg_left h2.1 w2)
  · exact add_le_add_three (mul_le_mul_of_nonneg_left h0.2 w0) (mul_le_mul_of_nonneg_left h1.2 w1)
      (mul_le_mul_of_nonneg_left h2.2 w2)

theorem vertexChannel_range (k : Channel) (v : ScreenVertex) : 0 ≤ vertexChannel k v ∧ vertexChannel k v ≤ 255 := by
  have byte : colorChannel v.c k < 256 := by
    cases k with
    | r => exact BitVec.isLt _
    | g => exact BitVec.isLt _
    | b => exact BitVec.isLt _
  rw [vertexChannel]
  omega

/-- On a covered point an interpolated channel is between any bounds of the three vertex channels (R202). -/
theorem interpolate_bounds {t : Tri} {p : Point} {k : Channel} {lo hi : Int} (pos : 0 < area t)
    (h : covered t p = true) (h0 : lo ≤ vertexChannel k t.v0 ∧ vertexChannel k t.v0 ≤ hi)
    (h1 : lo ≤ vertexChannel k t.v1 ∧ vertexChannel k t.v1 ≤ hi)
    (h2 : lo ≤ vertexChannel k t.v2 ∧ vertexChannel k t.v2 ≤ hi) :
    lo ≤ interpolate t p k ∧ interpolate t p k ≤ hi := by
  obtain ⟨lower, upper⟩ := weightedSum_bounds h h0 h1 h2
  rw [mul_comm] at lower upper
  exact ⟨Int.le_ediv_of_mul_le pos lower, Int.ediv_le_of_le_mul pos upper⟩

/-- An interpolated channel of a covered point is a byte (R202). -/
theorem interpolate_range {t : Tri} {p : Point} (k : Channel) (pos : 0 < area t) (h : covered t p = true) :
    0 ≤ interpolate t p k ∧ interpolate t p k ≤ 255 :=
  interpolate_bounds pos h (vertexChannel_range k _) (vertexChannel_range k _) (vertexChannel_range k _)

/-- At vertex 0 interpolation gives its channel (R202). -/
theorem interpolate_at_v0 {t : Tri} (pos : 0 < area t) (k : Channel) :
    interpolate t t.v0.p k = colorChannel t.v0.c k := by
  obtain ⟨w0, w1, w2⟩ := weights_at_v0 t
  rw [interpolate, w0, w1, w2, zero_mul, zero_mul, add_zero, add_zero]
  exact Int.mul_ediv_cancel_left _ pos.ne'

/-- Settles O36: vertices 1 and 2 are vertex 0 of the rotated triangle. -/
theorem interpolationFloorsInRange : Obligations.InterpolationFloorsInRange := by
  intro t p k pos
  have posRotated : 0 < area t.rotate := by rwa [area_rotate]
  have posRotatedTwice : 0 < area t.rotate.rotate := by rwa [area_rotate]
  refine ⟨⟨Int.mul_ediv_self_le pos.ne', ?_⟩, fun h => ?_, interpolate_at_v0 pos k, ?_, ?_⟩
  · rw [mul_add, mul_one]
    exact Int.lt_mul_ediv_self_add pos
  · have between := interpolate_bounds (k := k) pos h
      (lo := min (vertexChannel k t.v0) (min (vertexChannel k t.v1) (vertexChannel k t.v2)))
      (hi := max (vertexChannel k t.v0) (max (vertexChannel k t.v1) (vertexChannel k t.v2)))
      (by simp) (by simp) (by simp)
    exact ⟨between.1, between.2, interpolate_range k pos h⟩
  · rw [← interpolate_rotate]
    exact interpolate_at_v0 posRotated k
  · rw [← interpolate_rotate, ← interpolate_rotate]
    exact interpolate_at_v0 posRotatedTwice k

/-- The range of translated coordinates (R192, R203); the framebuffer's coordinates lie in it. -/
def Point.InRange (p : Point) : Prop := -65536 ≤ p.x ∧ p.x ≤ 65534 ∧ -65536 ≤ p.y ∧ p.y ≤ 65534

/-- Translation adds two 16-bit numbers (R192). -/
theorem translate_inRange (o : DrawOffset) (v : Vertex) : (translate o v).p.InRange := by
  have half (h : Half) : -32768 ≤ h.toInt ∧ h.toInt ≤ 32767 := by
    have lower := h.le_toInt
    have upper := h.toInt_lt
    omega
  have hx := half v.x
  have hy := half v.y
  have hox := half o.ox
  have hoy := half o.oy
  simp only [Point.InRange, translate, signedHalf]
  omega

/-- A product of two differences of coordinates: a difference spans at most 131070. -/
theorem abs_mul_le_sq_span {u v : Int} (hu : |u| ≤ 131070) (hv : |v| ≤ 131070) : |u * v| ≤ 131070 * 131070 := by
  rw [abs_mul]
  exact mul_le_mul hu hv (abs_nonneg v) (by decide)

/-- Edge functions of points in range fit s36 (R203). -/
theorem abs_edge_lt {a b q : Point} (ha : a.InRange) (hb : b.InRange) (hq : q.InRange) : |edge a b q| < 2 ^ 35 := by
  obtain ⟨ax, ax', ay, ay'⟩ := ha
  obtain ⟨bx, bx', by0, by1⟩ := hb
  obtain ⟨qx, qx', qy, qy'⟩ := hq
  have left : |(b.x - a.x) * (q.y - a.y)| ≤ 131070 * 131070 :=
    abs_mul_le_sq_span (abs_le.2 (by omega)) (abs_le.2 (by omega))
  have right : |(b.y - a.y) * (q.x - a.x)| ≤ 131070 * 131070 :=
    abs_mul_le_sq_span (abs_le.2 (by omega)) (abs_le.2 (by omega))
  calc |edge a b q| ≤ |(b.x - a.x) * (q.y - a.y)| + |(b.y - a.y) * (q.x - a.x)| := abs_sub _ _
    _ ≤ 131070 * 131070 + 131070 * 131070 := add_le_add left right
    _ < 2 ^ 35 := by decide

/-- All three vertices in range. -/
def Tri.InRange (t : Tri) : Prop := t.v0.p.InRange ∧ t.v1.p.InRange ∧ t.v2.p.InRange

theorem Tri.InRange.normalise {t : Tri} (h : t.InRange) : (normalise t).InRange := by
  obtain ⟨h0, h1, h2⟩ := h
  rw [Machine.normalise]
  split
  · exact ⟨h0, h2, h1⟩
  · exact ⟨h0, h1, h2⟩

/-- Settles O37: two products of coordinate differences bound an edge function, and 255 times the area a numerator. -/
theorem datapathWidths : Obligations.DatapathWidths := by
  intro o v0 v1 v2 p k x0 x1 y0 y1
  refine ⟨fun v => ⟨rfl, rfl, rfl⟩, rfl, translate_inRange o, fun t ht => ?_⟩
  have inRange : t.InRange :=
    ht ▸ Tri.InRange.normalise ⟨translate_inRange o v0, translate_inRange o v1, translate_inRange o v2⟩
  obtain ⟨h0, h1, h2⟩ := inRange
  have hp : p.InRange := ⟨by omega, x1, by omega, y1⟩
  refine ⟨abs_edge_lt h0 h1 h2, abs_edge_lt h1 h2 hp, abs_edge_lt h2 h0 hp, abs_edge_lt h0 h1 hp, fun h => ?_⟩
  obtain ⟨lower, upper⟩ :=
    weightedSum_bounds h (vertexChannel_range k _) (vertexChannel_range k _) (vertexChannel_range k _)
  have small : area t < 2 ^ 35 := (abs_lt.1 (abs_edge_lt h0 h1 h2)).2
  rw [mul_zero] at lower
  rw [mul_comm] at upper
  exact ⟨lower, upper, upper.trans_lt (by omega)⟩

end Sys2Proof.Machine

/-! ### Shared edges (R212 (c)) -/

namespace Sys2Proof.Machine

/-- The edge from `a` to `b` is a top-left one in the triangle with third vertex `c`, taken in the direction in which the
normalised triangle runs through it (R198, R200). -/
def ownsEdge (a b c : Point) : Bool := if edge a b c < 0 then topLeft b a else topLeft a b

/-- How far `p` lies along the edge from `a` to `b`, times the edge's length. -/
def along (a b p : Point) : Int := (p.x - a.x) * (b.x - a.x) + (p.y - a.y) * (b.y - a.y)

/-- The foot of `p` on the edge from `a` to `b` lies strictly between the two. -/
def FootBetween (a b p : Point) : Prop := 0 < along a b p ∧ along a b p < along a b b

theorem FootBetween.symm {a b p : Point} (h : FootBetween a b p) : FootBetween b a p := by
  obtain ⟨afterA, beforeB⟩ := h
  simp only [along] at afterA beforeB
  constructor
  · simp only [along]
    linarith
  · simp only [along]
    linarith

theorem edge_symm (a b p : Point) : edge b a p = -edge a b p := by
  simp only [edge]
  ring

/-- Where two points differ, exactly one direction of the edge between them is top-left (R200). -/
theorem topLeft_symm {a b c : Point} (h : edge a b c ≠ 0) : topLeft b a = !topLeft a b := by
  have differ : b.x - a.x ≠ 0 ∨ b.y - a.y ≠ 0 := by
    by_contra! same
    exact h (by rw [edge, same.1, same.2, zero_mul, zero_mul, sub_zero])
  rw [topLeft, topLeft, ← decide_not, decide_eq_decide]
  omega

/-- Of two triangles on opposite sides of an edge, exactly one owns it. -/
theorem ownsEdge_opposite {a b c d : Point} (h : edge a b c * edge a b d < 0) : ownsEdge a b d = !ownsEdge a b c := by
  rcases mul_neg_iff.1 h with ⟨hc, hd⟩ | ⟨hc, hd⟩
  · rw [ownsEdge, ownsEdge, if_pos hd, if_neg (not_lt.2 hc.le), topLeft_symm hc.ne']
  · rw [ownsEdge, ownsEdge, if_neg (not_lt.2 hd.le), if_pos hc, topLeft_symm hc.ne, Bool.not_not]

theorem covered_rotate (t : Tri) (p : Point) : covered t.rotate p = covered t p := by
  rw [covered, Bool.and_comm, ← Bool.and_assoc]
  rfl

section

variable {a b c p : Point} {ca cb cc : Word}

/-- A triangle of negative area covers, once normalised, what it does with vertices 0 and 1 exchanged: the two orders
differ by a rotation (R198, R201). -/
theorem covered_normalise_of_neg (neg : edge a b c < 0) :
    covered (normalise ⟨⟨a, ca⟩, ⟨b, cb⟩, ⟨c, cc⟩⟩) p = covered ⟨⟨b, cb⟩, ⟨a, ca⟩, ⟨c, cc⟩⟩ p := by
  exact (congrArg (covered · p) (normalise_of_neg (t := ⟨⟨a, ca⟩, ⟨b, cb⟩, ⟨c, cc⟩⟩) neg)).trans
    (covered_rotate ⟨⟨b, cb⟩, ⟨a, ca⟩, ⟨c, cc⟩⟩ p)

/-- A point on the line of the edge from `a` to `b` is covered only where that edge is top-left (R201). -/
theorem topLeft_of_covered (online : edge a b p = 0) (h : covered ⟨⟨a, ca⟩, ⟨b, cb⟩, ⟨c, cc⟩⟩ p = true) :
    topLeft a b = true := by
  obtain ⟨-, -, inside | ⟨-, tl⟩⟩ := covered_iff.1 h
  · exact absurd online inside.ne'
  · exact tl

/-- A point of the edge strictly between its ends is covered where the edge is top-left: its distances to the ends share
out the area over the other two weights. -/
theorem covered_of_topLeft (pos : 0 < edge a b c) (online : edge a b p = 0) (between : FootBetween a b p)
    (tl : topLeft a b = true) : covered ⟨⟨a, ca⟩, ⟨b, cb⟩, ⟨c, cc⟩⟩ p = true := by
  obtain ⟨afterA, beforeB⟩ := between
  have length_pos : 0 < along a b b := afterA.trans beforeB
  have share : along a b b * edge c a p = along a b p * edge a b c := by
    simp only [edge, along] at online ⊢
    linear_combination (-((b.x - a.x) * (c.x - a.x) + (b.y - a.y) * (c.y - a.y))) * online
  have rest : edge b c p + edge c a p + edge a b p = edge a b c := weights_sum ⟨⟨a, ca⟩, ⟨b, cb⟩, ⟨c, cc⟩⟩ p
  have w1 : 0 < edge c a p := pos_of_mul_pos_right (share ▸ mul_pos afterA pos) length_pos.le
  have w1_lt : edge c a p < edge a b c :=
    lt_of_mul_lt_mul_left (share.trans_lt (mul_lt_mul_of_pos_right beforeB pos)) length_pos.le
  have w0 : 0 < edge b c p := by omega
  exact covered_iff.2 ⟨.inl w0, .inl w1, .inr ⟨online, tl⟩⟩

/-- On a triangle's edge only the owner covers. -/
theorem ownsEdge_of_covered (online : edge a b p = 0)
    (h : covered (normalise ⟨⟨a, ca⟩, ⟨b, cb⟩, ⟨c, cc⟩⟩) p = true) : ownsEdge a b c = true := by
  rw [ownsEdge]
  split
  next neg =>
    rw [covered_normalise_of_neg neg] at h
    exact topLeft_of_covered (by rw [edge_symm, online, neg_zero]) h
  next nonneg =>
    rw [normalise_of_nonneg (t := ⟨⟨a, ca⟩, ⟨b, cb⟩, ⟨c, cc⟩⟩) (not_lt.1 nonneg)] at h
    exact topLeft_of_covered online h

/-- The owner of an edge covers it strictly between its ends. -/
theorem covered_of_ownsEdge (nondegenerate : edge a b c ≠ 0) (online : edge a b p = 0) (between : FootBetween a b p)
    (owner : ownsEdge a b c = true) : covered (normalise ⟨⟨a, ca⟩, ⟨b, cb⟩, ⟨c, cc⟩⟩) p = true := by
  rcases nondegenerate.lt_or_gt with neg | pos
  · rw [ownsEdge, if_pos neg] at owner
    rw [covered_normalise_of_neg neg]
    exact covered_of_topLeft (by rw [edge_symm]; omega) (by rw [edge_symm, online, neg_zero]) between.symm owner
  · rw [ownsEdge, if_neg (not_lt.2 pos.le)] at owner
    rw [normalise_of_nonneg (t := ⟨⟨a, ca⟩, ⟨b, cb⟩, ⟨c, cc⟩⟩) pos.le]
    exact covered_of_topLeft pos online between owner

end

/-- Settles O38: exactly one of the two triangles owns the edge, and only its owner covers it. -/
theorem sharedEdgePartitioned : Obligations.SharedEdgePartitioned := by
  intro a b c d ca cb cc ca' cb' cd p opposite online
  have owners := ownsEdge_opposite opposite
  have nondegenerate := mul_ne_zero_iff.1 opposite.ne
  refine ⟨fun ⟨hc, hd⟩ => ?_, fun afterA beforeB => ?_⟩
  · rw [ownsEdge_of_covered online hc, ownsEdge_of_covered online hd] at owners
    cases owners
  · cases hc : ownsEdge a b c with
    | true => exact .inl (covered_of_ownsEdge nondegenerate.1 online ⟨afterA, beforeB⟩ hc)
    | false =>
      rw [hc] at owners
      exact .inr (covered_of_ownsEdge nondegenerate.2 online ⟨afterA, beforeB⟩ owners)

end Sys2Proof.Machine

/-! ### What PUSH_TRIANGLE reads of its vertices: their order and the offset (R192, R212 (d), (e)) -/

namespace Sys2Proof.Machine

/-- The scan's bounds do not depend on which vertex comes first (R194). -/
theorem scanBox_rotate (c : Clip) (t : Tri) : scanBox c t.rotate = scanBox c t := by
  simp only [scanBox, Tri.rotate, min_comm, min_left_comm, max_comm, max_left_comm]

theorem coveredPoints_rotate (c : Clip) (t : Tri) : coveredPoints c t.rotate = coveredPoints c t := by
  simp only [coveredPoints, scanBox_rotate, funext (covered_rotate t)]

theorem shade_rotate (t : Tri) (d24 d : Bool) (p : Point) : shade t.rotate d24 d p = shade t d24 d p := by
  simp only [shade, channelValue, interpolate_rotate]

/-- Normalisation commutes with rotation up to a rotation (R198). -/
theorem normalise_rotate (t : Tri) :
    normalise t.rotate = if area t < 0 then (normalise t).rotate.rotate else (normalise t).rotate := by
  rw [normalise, normalise, area_rotate]
  split <;> rfl

/-- A triangle and its counterpart in the other orientation normalise to one triangle (R198). -/
theorem normalise_swap {t : Tri} (h : area t ≠ 0) : normalise t.swap = normalise t := by
  rcases h.lt_or_gt with neg | pos
  · rw [normalise_of_neg neg, normalise_of_nonneg (by rw [area_swap]; omega)]
  · rw [normalise_of_nonneg pos.le, normalise_of_neg (by rw [area_swap]; omega)]
    rfl

section

variable (cfg : Config) (o : DrawOffset) (a : DrawArea) (d24 d : Bool) (v0 v1 v2 : Vertex)

theorem trianglePixels_rotate : trianglePixels cfg o a d24 v1 v2 v0 d = trianglePixels cfg o a d24 v0 v1 v2 d := by
  have rotated : translatedTri o v1 v2 v0 = (translatedTri o v0 v1 v2).rotate := rfl
  rw [trianglePixels, trianglePixels, rotated, area_rotate, normalise_rotate]
  split_ifs
  · rfl
  · simp only [coveredPoints_rotate, shade_rotate]
  · simp only [coveredPoints_rotate, shade_rotate]

theorem trianglePixels_swap : trianglePixels cfg o a d24 v0 v2 v1 d = trianglePixels cfg o a d24 v0 v1 v2 d := by
  have swapped : translatedTri o v0 v2 v1 = (translatedTri o v0 v1 v2).swap := rfl
  rw [trianglePixels, trianglePixels, swapped, area_swap]
  by_cases degenerate : area (translatedTri o v0 v1 v2) = 0
  · rw [if_pos degenerate, if_pos (neg_eq_zero.2 degenerate)]
  · rw [if_neg degenerate, if_neg (mt neg_eq_zero.1 degenerate), normalise_swap degenerate]

end

/-- PUSH_TRIANGLE reads its vertices through the triangle's pixels only (R210). -/
theorem exec_pushTriangle_congr {s : State} {v0 v1 v2 u0 u1 u2 : Vertex} {d : Bool}
    (same : trianglePixels s.cfg s.drawOffset s.drawArea s.displayMode.d24 u0 u1 u2 d =
      trianglePixels s.cfg s.drawOffset s.drawArea s.displayMode.d24 v0 v1 v2 d) :
    exec (.pushTriangle u0 u1 u2 d) s = exec (.pushTriangle v0 v1 v2 d) s := by
  have sameDraw : s.draw u0 u1 u2 d = s.draw v0 v1 v2 d := by rw [State.draw, same]; rfl
  rw [exec, execPushTriangle, guarded, sameDraw]
  rfl

/-- Settles O39: every order of the vertices is a rotation, or a rotation of the order wound the other way. -/
theorem vertexOrderIrrelevant : Obligations.VertexOrderIrrelevant := by
  intro s v0 v1 v2 u0 u1 u2 d h
  apply exec_pushTriangle_congr
  have orders := List.mem_permutations'.2 h
  simp only [List.permutations', List.permutations'Aux, List.flatMap_cons, List.flatMap_nil, List.map_cons, List.map_nil,
    List.append_nil, List.mem_append, List.mem_cons, List.not_mem_nil, or_false, List.cons.injEq, and_true] at orders
  rcases orders with (⟨rfl, rfl, rfl⟩ | ⟨rfl, rfl, rfl⟩ | ⟨rfl, rfl, rfl⟩) |
    ⟨rfl, rfl, rfl⟩ | ⟨rfl, rfl, rfl⟩ | ⟨rfl, rfl, rfl⟩
  · rfl
  · rw [trianglePixels_swap, trianglePixels_rotate]
  · rw [trianglePixels_rotate]
  · rw [trianglePixels_swap]
  · rw [trianglePixels_rotate, trianglePixels_rotate]
  · rw [trianglePixels_swap, trianglePixels_rotate, trianglePixels_rotate]

/-- A shifted vertex under offset (0, 0) is translated to where the vertex is under the offset (R192). -/
theorem translate_shifted {o : DrawOffset} {v u : Vertex} (color : u.c = v.c)
    (hx : u.x.toInt = v.x.toInt + o.ox.toInt) (hy : u.y.toInt = v.y.toInt + o.oy.toInt) :
    translate ⟨0, 0⟩ u = translate o v := by
  simp [translate, signedHalf, color, hx, hy]

/-- Settles O40: the translated triangles are the same (R192, R212 (d)). -/
theorem offsetEquivalence : Obligations.OffsetEquivalence := by
  intro s v0 v1 v2 u0 u1 u2 d _ inFrame shifted
  have sameTri : translatedTri ⟨0, 0⟩ u0 u1 u2 = translatedTri s.drawOffset v0 v1 v2 := by
    obtain ⟨c0, x0, y0⟩ := shifted (v0, u0) (by simp)
    obtain ⟨c1, x1, y1⟩ := shifted (v1, u1) (by simp)
    obtain ⟨c2, x2, y2⟩ := shifted (v2, u2) (by simp)
    rw [translatedTri, translate_shifted c0 x0 y0, translate_shifted c1 x1 y1, translate_shifted c2 x2 y2]
    rfl
  have samePixels : trianglePixels s.cfg ⟨0, 0⟩ s.drawArea s.displayMode.d24 u0 u1 u2 d =
      trianglePixels s.cfg s.drawOffset s.drawArea s.displayMode.d24 v0 v1 v2 d := by
    rw [trianglePixels, sameTri]
    rfl
  have sameDraw : ({ s with drawOffset := ⟨0, 0⟩ } : State).draw u0 u1 u2 d =
      { s.draw v0 v1 v2 d with drawOffset := ⟨0, 0⟩ } := by
    rw [State.draw, samePixels]
    rfl
  refine ⟨_, _, exec_pushTriangle_of_inFrame inFrame v0 v1 v2 d,
    exec_pushTriangle_of_inFrame (s := { s with drawOffset := ⟨0, 0⟩ }) inFrame u0 u1 u2 d, ?_⟩
  rw [sameDraw]
  exact ⟨rfl, rfl⟩

end Sys2Proof.Machine

/-! ### Which cells a triangle writes (R193 to R195, R197, R209 to R211) -/

namespace Sys2Proof.Machine

theorem weightedSum_x (t : Tri) (p : Point) : weightedSum t p (·.p.x) = area t * p.x := by
  simp only [weightedSum, weight0, weight1, weight2, area, edge]
  ring

theorem weightedSum_y (t : Tri) (p : Point) : weightedSum t p (·.p.y) = area t * p.y := by
  simp only [weightedSum, weight0, weight1, weight2, area, edge]
  ring

/-- A coordinate whose weighted sum gives that of the point is bounded by the vertices' ones. -/
theorem between_vertices {t : Tri} {p : Point} {f : ScreenVertex → Int} {z : Int} (pos : 0 < area t)
    (h : covered t p = true) (mean : weightedSum t p f = area t * z) :
    min (f t.v0) (min (f t.v1) (f t.v2)) ≤ z ∧ z ≤ max (f t.v0) (max (f t.v1) (f t.v2)) := by
  obtain ⟨lower, upper⟩ := weightedSum_bounds (f := f) (lo := min (f t.v0) (min (f t.v1) (f t.v2)))
    (hi := max (f t.v0) (max (f t.v1) (f t.v2))) h (by simp) (by simp) (by simp)
  rw [mean] at lower upper
  exact ⟨le_of_mul_le_mul_left lower pos, le_of_mul_le_mul_left upper pos⟩

/-- The bounding box plays no part: the fill rule covers no point outside it (R194, R195). -/
theorem mem_coveredPoints_iff {c : Clip} {t : Tri} {p : Point} (pos : 0 < area t) :
    p ∈ coveredPoints c t ↔ (c.cx0 ≤ p.x ∧ p.x < c.cx1 ∧ c.cy0 ≤ p.y ∧ p.y < c.cy1) ∧ covered t p = true := by
  rw [mem_coveredPoints]
  refine and_congr_left fun h => ⟨scanned_in_clip, fun inClip => mem_boxPoints.2 ?_⟩
  have hx := between_vertices pos h (weightedSum_x t p)
  have hy := between_vertices pos h (weightedSum_y t p)
  simp only [scanBox]
  omega

/-- A pixel of a triangle is in the clip region (R193). -/
theorem trianglePixels_in_clip {cfg : Config} {o : DrawOffset} {a : DrawArea} {d24 d : Bool} {v0 v1 v2 : Vertex}
    {q : Point × Cell} (hq : q ∈ trianglePixels cfg o a d24 v0 v1 v2 d) :
    (a.ax.toNat : Int) ≤ q.1.x ∧ q.1.x < min ((a.ax.toNat : Int) + a.aw.toNat) cfg.fbW ∧
    (a.ay.toNat : Int) ≤ q.1.y ∧ q.1.y < min ((a.ay.toNat : Int) + a.ah.toNat) cfg.fbH := by
  obtain ⟨-, hp, -⟩ := mem_trianglePixels.1 hq
  exact scanned_in_clip (mem_coveredPoints.1 hp).1

/-- Settles O43: only points of the scan set are written, and it lies in the clip region (R193, R194). -/
theorem pixelsStayInClipRegion : Obligations.PixelsStayInClipRegion :=
  fun _ _ _ _ _ _ _ _ _ => trianglePixels_in_clip

/-- The pixels of a triangle, cell by cell of the framebuffer (R193, R195, R197, R210). -/
theorem mem_trianglePixels_iff {cfg : Config} {o : DrawOffset} {a : DrawArea} {d24 d : Bool} {v0 v1 v2 : Vertex}
    {x y : Nat} {v : Cell} (hx : x < cfg.fbW) (hy : y < cfg.fbH) :
    (⟨⟨x, y⟩, v⟩ : Point × Cell) ∈ trianglePixels cfg o a d24 v0 v1 v2 d ↔
      (area (translatedTri o v0 v1 v2) ≠ 0 ∧
        a.ax.toNat ≤ x ∧ x < a.ax.toNat + a.aw.toNat ∧ a.ay.toNat ≤ y ∧ y < a.ay.toNat + a.ah.toNat ∧
        covered (normalise (translatedTri o v0 v1 v2)) ⟨x, y⟩ = true) ∧
      v = shade (normalise (translatedTri o v0 v1 v2)) d24 d ⟨x, y⟩ := by
  rw [mem_trianglePixels, and_assoc]
  refine and_congr_right fun nondegenerate => ?_
  have pos : 0 < area (normalise (translatedTri o v0 v1 v2)) := by
    rw [area_normalise]
    exact abs_pos.2 nondegenerate
  have inClip : ((clipRegion cfg a).cx0 ≤ (x : Int) ∧ (x : Int) < (clipRegion cfg a).cx1 ∧
      (clipRegion cfg a).cy0 ≤ (y : Int) ∧ (y : Int) < (clipRegion cfg a).cy1) ↔
      a.ax.toNat ≤ x ∧ x < a.ax.toNat + a.aw.toNat ∧ a.ay.toNat ≤ y ∧ y < a.ay.toNat + a.ah.toNat := by
    simp only [clipRegion, unsignedHalf]
    omega
  simp only [mem_coveredPoints_iff pos, inClip, and_assoc]

/-- Settles O32: a cell is a pixel of the triangle under the stated condition, and pixels are drawn (R195, R209). -/
theorem pushTriangleResult : Obligations.PushTriangleResult := by
  intro s v0 v1 v2 d _ inFrame canonical
  refine ⟨_, exec_pushTriangle_of_inFrame inFrame v0 v1 v2 d, rfl, fun x y hx hy => ?_⟩
  split
  next drawn => exact State.fbRead_draw_of_mem hx canonical _ ((mem_trianglePixels_iff hx hy).2 ⟨drawn, rfl⟩)
  next notDrawn =>
    exact State.fbRead_draw_of_not_mem hx canonical fun v hv => notDrawn ((mem_trianglePixels_iff hx hy).1 hv).1

/-- Without pixels a draw changes nothing. -/
theorem State.draw_of_no_pixels {s : State} {v0 v1 v2 : Vertex} {d : Bool}
    (empty : trianglePixels s.cfg s.drawOffset s.drawArea s.displayMode.d24 v0 v1 v2 d = []) :
    s.draw v0 v1 v2 d = s := by
  rw [State.draw, empty]
  rfl

/-- Settles O34: a pixel would need a nonzero area and a point of the clip region (R193, R197). -/
theorem nothingToDraw : Obligations.NothingToDraw := by
  intro s v0 v1 v2 d _ inFrame nothing
  rw [exec_pushTriangle_of_inFrame inFrame, State.draw_of_no_pixels]
  · rfl
  · refine List.eq_nil_iff_forall_not_mem.2 fun q hq => ?_
    have nondegenerate := (mem_trianglePixels.1 hq).1
    have inClip := trianglePixels_in_clip hq
    rcases nothing with degenerate | noColumn | noRow | right | below
    · exact nondegenerate degenerate
    · have : s.drawArea.aw.toNat = 0 := by rw [noColumn]; rfl
      omega
    · have : s.drawArea.ah.toNat = 0 := by rw [noRow]; rfl
      omega
    · omega
    · omega

end Sys2Proof.Machine

/-! ### The order of a triangle's writes (R211) -/

namespace Sys2Proof.Machine

theorem intRange_nodup (lo hi : Int) : (intRange lo hi).Nodup :=
  List.nodup_range.map fun _ _ h => by simpa using h

/-- A scan meets each point once (R194, R210). -/
theorem boxPoints_nodup (b : Box) : (boxPoints b).Nodup := by
  refine List.nodup_flatMap.2 ⟨fun y _ => (intRange_nodup _ _).map fun _ _ h => congrArg Point.x h, ?_⟩
  refine (intRange_nodup _ _).imp fun {y y'} differ p hy hy' => ?_
  obtain ⟨x, -, rfl⟩ := List.mem_map.1 hy
  obtain ⟨x', -, same⟩ := List.mem_map.1 hy'
  exact differ (congrArg Point.y same).symm

/-- Writes to two cells commute on a canonical framebuffer (R72). -/
theorem fbWrite_comm {cfg : Config} {fb : Memory} {x y x' y' : Nat} (v v' : Cell)
    (canonical : Memory.wf cfg.background fb = true) (differ : cellIndex cfg x y ≠ cellIndex cfg x' y') :
    fbWrite cfg (fbWrite cfg fb x y v) x' y' v' = fbWrite cfg (fbWrite cfg fb x' y' v') x y v := by
  refine Memory.ext_read (fbWrite_wf (fbWrite_wf canonical)) (fbWrite_wf (fbWrite_wf canonical)) fun k => ?_
  simp only [fbWrite, Memory.read_write (Memory.wf_write canonical), Memory.read_write canonical]
  by_cases first : k = cellIndex cfg x y
  · simp [first, differ]
  · simp [first]

/-- Writes to different cells may be made in any order (R211). -/
theorem fbWriteAll_perm {cfg : Config} {ws ws' : List ((Nat × Nat) × Cell)} (h : ws.Perm ws') {fb : Memory}
    (canonical : Memory.wf cfg.background fb = true)
    (distinct : (ws.map fun w => cellIndex cfg w.1.1 w.1.2).Nodup) :
    fbWriteAll cfg fb ws = fbWriteAll cfg fb ws' := by
  induction h generalizing fb with
  | nil => rfl
  | cons w _ ih => exact ih (fbWrite_wf canonical) (List.nodup_cons.1 distinct).2
  | swap w u ws =>
    have differ : cellIndex cfg u.1.1 u.1.2 ≠ cellIndex cfg w.1.1 w.1.2 := fun same => by
      simp [same] at distinct
    rw [fbWriteAll_cons, fbWriteAll_cons, fbWrite_comm _ _ canonical differ]
    rfl
  | trans first _ ih1 ih2 =>
    exact (ih1 canonical distinct).trans (ih2 canonical ((first.map _).nodup_iff.1 distinct))

section

variable (cfg : Config) (o : DrawOffset) (a : DrawArea) (d24 d : Bool) (v0 v1 v2 : Vertex)

/-- A triangle's pixels are distinct points (R211). -/
theorem trianglePixels_nodup : ((trianglePixels cfg o a d24 v0 v1 v2 d).map Prod.fst).Nodup := by
  rw [trianglePixels]
  split
  · exact List.nodup_nil
  · rw [List.map_map]
    exact ((boxPoints_nodup _).filter _).map Function.injective_id

/-- A triangle's writes are to distinct cells: inside the framebuffer an index is one point's (R71, R211). -/
theorem pixelWrites_nodup :
    ((pixelWrites (trianglePixels cfg o a d24 v0 v1 v2 d)).map fun w => cellIndex cfg w.1.1 w.1.2).Nodup := by
  have distinct := trianglePixels_nodup cfg o a d24 d v0 v1 v2
  rw [pixelWrites, List.map_map]
  refine (List.Nodup.of_map _ distinct).map_on fun q hq q' hq' same => List.inj_on_of_nodup_map distinct hq hq' ?_
  obtain ⟨hx, hx', hy, -⟩ := trianglePixels_in_fb hq
  obtain ⟨kx, kx', ky, -⟩ := trianglePixels_in_fb hq'
  obtain ⟨sameColumn, sameRow⟩ : q.1.x.toNat = q'.1.x.toNat ∧ q.1.y.toNat = q'.1.y.toNat :=
    (cellIndex_inj (by omega) (by omega)).1 same
  have sameX : q.1.x = q'.1.x := by omega
  have sameY : q.1.y = q'.1.y := by omega
  exact congrArg₂ Point.mk sameX sameY

end

/-- Settles O42: distinct cells, and writes to distinct cells commute (R211). -/
theorem writeOrderIrrelevant : Obligations.WriteOrderIrrelevant := by
  intro cfg o a d24 d v0 v1 v2 fb canonical
  refine ⟨trianglePixels_nodup cfg o a d24 d v0 v1 v2, fun ps h => ?_⟩
  exact (fbWriteAll_perm (h.symm.map _) canonical (pixelWrites_nodup cfg o a d24 d v0 v1 v2)).symm

end Sys2Proof.Machine

/-! ### Dither, clamp and pack (R204 to R208) -/

namespace Sys2Proof.Machine

/-- The clamp, case by case (R206). -/
theorem clampChannel_spec (v : Int) :
    clampChannel v ≤ 255 ∧ (v < 0 → clampChannel v = 0) ∧ (255 < v → clampChannel v = 255) ∧
      (0 ≤ v → v ≤ 255 → (clampChannel v : Int) = v) := by
  rw [clampChannel]
  omega

/-- The offset of a pixel is that of its residues (R204, R205). -/
theorem ditherAt_mod (p : Point) : ditherAt p = ditherAt ⟨p.x % 4, p.y % 4⟩ := by
  rw [ditherAt, ditherAt, Int.emod_emod, Int.emod_emod]

/-- The offsets of the table (R204). -/
theorem ditherAt_range (p : Point) : -4 ≤ ditherAt p ∧ ditherAt p ≤ 3 := by
  have table : ∀ row < 4, ∀ col < 4,
      -4 ≤ (ditherLut.getD row []).getD col 0 ∧ (ditherLut.getD row []).getD col 0 ≤ 3 := by decide
  exact table _ (by omega) _ (by omega)

/-- Without dither a covered pixel's channel is the interpolated one: it is a byte already (R202, R206). -/
theorem channelValue_undithered {t : Tri} {p : Point} (k : Channel) (pos : 0 < area t) (h : covered t p = true) :
    (channelValue t false p k : Int) = interpolate t p k := by
  obtain ⟨low, high⟩ := interpolate_range k pos h
  obtain ⟨-, -, -, unchanged⟩ := clampChannel_spec (interpolate t p k)
  exact unchanged low high

/-- Settles O44: the table by its sixteen entries, the rest by residues and the clamp's cases (R204 to R206). -/
theorem ditherAndClamp : Obligations.DitherAndClamp :=
  ⟨fun _ _ => ⟨rfl, rfl⟩, fun p => ⟨ditherAt_mod p, ditherAt_range p⟩, by decide, by decide, clampChannel_spec,
    fun _ _ _ _ => rfl, fun _ _ k => channelValue_undithered k⟩

/-- Fields that do not overlap add up. -/
theorem or_fields {r g b m n : Nat} (hb : b < 2 ^ n) (hgb : g * 2 ^ n + b < 2 ^ m) :
    (r <<< m ||| g <<< n) ||| b = r * 2 ^ m + (g * 2 ^ n + b) := by
  rw [Nat.or_assoc, ← Nat.shiftLeft_add_eq_or_of_lt hb, Nat.shiftLeft_eq g, ← Nat.shiftLeft_add_eq_or_of_lt hgb,
    Nat.shiftLeft_eq]

section

variable {r g b : Nat} (hr : r < 256) (hg : g < 256) (hb : b < 256)
include hr hg hb

theorem pack16_toNat : (pack16 r g b).toNat = r / 8 * 1024 + g / 8 * 32 + b / 8 := by
  rw [pack16, BitVec.toNat_ofNat, or_fields (by omega) (by omega)]
  omega

theorem pack24_toNat : (pack24 r g b).toNat = r * 65536 + g * 256 + b := by
  rw [pack24, BitVec.toNat_ofNat, or_fields (by omega) (by omega)]
  omega

end

/-- A pixel shaded at 16 bits has bit 15 and the bits above it zero (R75, R207). -/
theorem shade_16_lt (t : Tri) (d : Bool) (p : Point) : (shade t false d p).toNat < 2 ^ 15 := by
  have byte (k : Channel) : channelValue t d p k < 256 := Nat.lt_succ_of_le (clampChannel_spec _).1
  have layout : (shade t false d p).toNat = _ := pack16_toNat (byte .r) (byte .g) (byte .b)
  have hr := byte .r
  have hg := byte .g
  have hb := byte .b
  omega

/-- Settles O45: the fields do not overlap, and a pixel's value is the shade at the draw's depth (R207, R208). -/
theorem pixelLayouts : Obligations.PixelLayouts := by
  refine ⟨fun r g b hr hg hb => ⟨pack16_toNat hr hg hb, pack24_toNat hr hg hb⟩, fun _ _ _ _ => rfl, ?_⟩
  intro cfg o a v0 v1 v2 d q hq
  obtain ⟨-, -, value⟩ := mem_trianglePixels.1 hq
  rw [value]
  exact shade_16_lt _ d q.1

end Sys2Proof.Machine

/-! ### PUSH_TRIANGLE's words and faults (R190) -/

namespace Sys2Proof.Machine

/-- Settles O33: the header word, and the command's row of R248 in Closed and Idle (R190). -/
theorem pushTriangleEncodingAndFaults : Obligations.PushTriangleEncodingAndFaults := by
  intro s v0 v1 v2 d clear
  have word := headerWord_pushTriangle v0 v1 v2 d
  refine ⟨congrArg (· :: _) word, fun closed => ?_, fun idle => ?_⟩
  · have row : legality s.cfg.strictSetters (.pushTriangle v0 v1 v2 d) s.lifecycle = some .notOpen := by
      rw [closed]
      rfl
    rw [exec_violation clear row, word]
    rfl
  · have row : legality s.cfg.strictSetters (.pushTriangle v0 v1 v2 d) s.lifecycle = some .notInFrame := by
      rw [idle]
      rfl
    rw [exec_violation clear row, word]
    rfl

end Sys2Proof.Machine

/-! ### Which steps change `LIFECYCLE` and emit `VideoRefresh` (R240, R246) -/

namespace Sys2Proof.Machine

/-- The rows of R248 for PREPARE_FRAME and CLOSE let them through in Idle only. -/
theorem eq_idle_of_whileIdle {l : Lifecycle} (h : whileIdle l = none) : l = .idle := by
  cases l with
  | idle => rfl
  | closed => cases h
  | inFrame => cases h

/-- The rows of R248 for FINALIZE_FRAME and PUSH_TRIANGLE let them through in InFrame only. -/
theorem eq_inFrame_of_whileInFrame {l : Lifecycle} (h : whileInFrame l = none) : l = .inFrame := by
  cases l with
  | inFrame => rfl
  | closed => cases h
  | idle => cases h

/-- Settles O46: the ways a command can end decide the new `LIFECYCLE`, its row of R248 the old one (R240). -/
theorem lifecycleTransitions : Obligations.LifecycleTransitions := by
  intro s t hstep changed
  cases stepOutcome_of_step hstep with
  | executed _ cmd row eff =>
    cases eff with
    | opened p yes => exact .inl ⟨p, cmd, yes, eq_closed_of_whileClosed row, rfl⟩
    | prepared => exact .inr (.inl ⟨cmd, eq_idle_of_whileIdle row, rfl⟩)
    | preparedClear => exact .inr (.inl ⟨cmd, eq_idle_of_whileIdle row, rfl⟩)
    | finalized => exact .inr (.inr (.inl ⟨cmd, eq_inFrame_of_whileInFrame row, by simp⟩))
    | closed => exact .inr (.inr (.inr ⟨cmd, eq_idle_of_whileIdle row, rfl⟩))
    | _ => exact absurd (by simp) changed
  | _ => exact absurd (by simp) changed

/-- A command that changes how often a `VideoRefresh` stands in `OUT` is a FINALIZE_FRAME that delivers it (R246). -/
theorem Effect.delivers_of_count_ne {s t : State} {i : Instr} {f : Frame} (eff : Effect s i t)
    (changed : t.out.count (.videoRefresh f) ≠ s.out.count (.videoRefresh f)) :
    i = .finalizeFrame ∧ s.videoBound = true ∧ t.out = s.out ++ [.videoRefresh f] ∧ t.present = some f ∧
      t.presentHeld = true := by
  cases eff with
  | finalized =>
    cases bound : s.videoBound with
    | false => exact absurd (by simp [bound]) changed
    | true =>
      have delivered : snapshot s = f := by
        by_contra other
        exact changed (by simp [bound, other])
      simp [bound, delivered]
  | _ => exact absurd (by simp) changed

/-- Settles O51: of a step's cases only a command that executes writes `OUT` (R45, R246). -/
theorem videoRefreshByFinalizeOnly : Obligations.VideoRefreshByFinalizeOnly := by
  intro s t f hstep changed
  cases stepOutcome_of_step hstep with
  | executed _ cmd _ eff =>
    obtain ⟨rfl, delivered⟩ := eff.delivers_of_count_ne changed
    exact ⟨cmd, delivered⟩
  | _ => exact absurd (by simp) changed

end Sys2Proof.Machine

/-! ### PREPARE_FRAME and the clearing of the window (R241 to R243) -/

namespace Sys2Proof.Machine

/-- PREPARE_FRAME in Idle, where its row of R248 lets it through (R241 to R243). -/
theorem exec_prepareFrame_of_idle {s : State} (idle : s.lifecycle = .idle) :
    exec .prepareFrame s =
      if s.presentHeld then .next s
      else if s.cfg.clearOnPrepare then
        if windowInFb s.cfg s.displayMode then .next (State.complete .prepareFrame s.enterFrame.clearWindow)
        else .fault .fbOutOfBounds
      else .next (State.complete .prepareFrame s.enterFrame) := by
  have row : legality s.cfg.strictSetters .prepareFrame s.lifecycle = none := by rw [idle]; rfl
  rw [exec, execPrepareFrame, guarded_ok row]

/-- PREPARE_FRAME has no effect in Idle while a frame is held (R242). -/
theorem exec_prepareFrame_of_held {s : State} (idle : s.lifecycle = .idle) (held : s.presentHeld = true) :
    exec .prepareFrame s = .next s := by
  rw [exec_prepareFrame_of_idle idle, if_pos held]

/-- Settles O47: the row of R248 in Closed and InFrame, then the hold, then the frame entered (R241, R242). -/
theorem prepareFrameResult : Obligations.PrepareFrameResult := by
  refine ⟨by simp [encode, argWords],
    fun s clear => ⟨fun closed => ?_, fun inFrame => ?_, exec_prepareFrame_of_held, fun idle free keeps => ?_⟩⟩
  · have row : legality s.cfg.strictSetters .prepareFrame s.lifecycle = some .notOpen := by rw [closed]; rfl
    rw [exec_violation clear row, headerWord_prepareFrame]
    rfl
  · have row : legality s.cfg.strictSetters .prepareFrame s.lifecycle = some .frameInProgress := by rw [inFrame]; rfl
    rw [exec_violation clear row, headerWord_prepareFrame]
    rfl
  · rw [exec_prepareFrame_of_idle idle, if_neg (ne_true_of_eq_false free), if_neg (ne_true_of_eq_false keeps)]
    rfl

/-- After the display window is cleared, its cells hold `BACKGROUND` and every other cell its old value (R243). -/
theorem State.fbRead_clearWindow {s : State} {x y : Nat} (hx : x < s.cfg.fbW)
    (window : windowInFb s.cfg s.displayMode = true) (canonical : Memory.wf s.cfg.background s.fb = true) :
    fbRead s.cfg s.clearWindow.fb x y =
      if (x, y) ∈ windowCells s.displayMode then s.cfg.background else fbRead s.cfg s.fb x y :=
  fbRead_writeAll_map hx (fun _ => s.cfg.background) canonical fun c hc => (windowCells_in_fb window c hc).1

/-- Settles O48: the cells written are those of the window, which a legal mode has in the framebuffer (R173, R243). -/
theorem prepareFrameClears : Obligations.PrepareFrameClears := by
  intro s _ idle free clears legal canonical
  have window := windowInFb_of_inRange legal
  rw [exec_prepareFrame_of_idle idle, if_neg (ne_true_of_eq_false free), if_pos clears, if_pos window]
  refine ⟨_, rfl, rfl, fun x y hx _ => ?_⟩
  exact (State.fbRead_clearWindow (s := s.enterFrame) hx window canonical).trans (if_congr mem_windowCells rfl rfl)

end Sys2Proof.Machine

/-! ### The release port and a held PREPARE_FRAME (R242, R247, R278) -/

namespace Sys2Proof.Machine

/-- Settles O52: `step_release`, and a hold that is clear already stays as it is (R247). -/
theorem releasePort : Obligations.ReleasePort := by
  intro s ts turns
  have release : step s = .next { s with presentHeld := false, turns := ts } := by
    rw [step_release (by rw [turns]; rfl), State.tookTurn, turns]
    rfl
  refine ⟨release, fun free => ?_⟩
  rw [release, ← free]

/-- A state in which the command processor's turn has no effect outlasts any number of such turns. -/
theorem run_of_resting {s : State}
    (rests : ∀ ts, step { s with turns := Turn.core :: ts } = .next { s with turns := ts }) (k n : Nat)
    (ts : List Turn) :
    Host.Core.run core (k + n) { s with turns := List.replicate k Turn.core ++ ts } =
      Host.Core.run core n { s with turns := ts } := by
  induction k with
  | zero => rw [Nat.zero_add]; rfl
  | succ k ih => rw [Nat.succ_add, List.replicate_succ, List.cons_append, run_next _ (rests _), ih]

/-- PREPARE_FRAME holds on the command processor's turn while a frame is held (R242). -/
theorem step_of_held {s : State} (held : s.Held) (turn : s.CoreTurn) : step s = .next s.tookTurn := by
  obtain ⟨clear, cmd, idle, presentHeld⟩ := held
  rw [stepRunsDecodedCommand s _ clear turn cmd]
  exact exec_prepareFrame_of_held (s := s.tookTurn) idle presentHeld

/-- With no frame held and a legal display mode, PREPARE_FRAME enters a frame, clearing or not (R241, R243). -/
theorem exec_prepareFrame_enters {s : State} (idle : s.lifecycle = .idle) (free : s.presentHeld = false)
    (legal : modeInRange s.cfg s.displayMode = true) :
    ∃ t, exec .prepareFrame s = .next t ∧ t.lifecycle = .inFrame ∧ t.pos = s.pos + 1 := by
  rw [exec_prepareFrame_of_idle idle, if_neg (ne_true_of_eq_false free), if_pos (windowInFb_of_inRange legal)]
  split_ifs
  · exact ⟨_, rfl, rfl, rfl⟩
  · exact ⟨_, rfl, rfl, rfl⟩

/-- Settles O49: the held state rests until the release, and the command at `POS` is still there then (R242, R247). -/
theorem heldPrepareExecutesAfterRelease : Obligations.HeldPrepareExecutesAfterRelease := by
  intro k s ts held legal turns
  have rests (us : List Turn) : step { s with turns := Turn.core :: us } = .next { s with turns := us } :=
    step_of_held (s := { s with turns := Turn.core :: us }) held (.inr rfl)
  have rested (n : Nat) : Host.Core.run core (k + n) s =
      Host.Core.run core n { s with turns := Turn.release :: Turn.core :: ts } := by
    have same := run_of_resting rests k n (Turn.release :: Turn.core :: ts)
    rwa [← turns] at same
  obtain ⟨clear, cmd, idle, -⟩ := held
  have executed : Host.Core.run core (k + 2) s = exec .prepareFrame { s with turns := ts, presentHeld := false } := by
    rw [rested, run_next _ (releasePort { s with turns := Turn.release :: Turn.core :: ts } _ rfl).1, run_one]
    exact stepRunsDecodedCommand _ _ clear (.inr rfl) cmd
  refine ⟨(rested 0).trans (run_zero _), executed, ?_⟩
  rw [executed]
  exact exec_prepareFrame_enters (s := { s with turns := ts, presentHeld := false }) idle rfl legal

/-- Raising a fault neither reads nor writes `PRESENT_HELD` (R270). -/
theorem State.raiseFault_releaseFrame (v : Violation) (w : Word) (s : State) :
    s.releaseFrame.raiseFault v w = (s.raiseFault v w).releaseFrame := by
  by_cases clear : s.fault.code = 0#3
  · rw [State.raiseFault_of_clear clear, State.raiseFault_of_clear (s := s.releaseFrame) clear]
    rfl
  · rw [State.raiseFault_of_latched clear, State.raiseFault_of_latched (s := s.releaseFrame) clear]

/-- Delivery without a video sink does nothing (R246). -/
theorem State.deliver_of_unbound {s : State} (unbound : s.videoBound = false) (f : Frame) : s.deliver f = s := by
  simp [State.deliver, unbound]

/-- Delivery to the video sink holds and emits the frame (R246). -/
theorem State.deliver_of_bound {s : State} (bound : s.videoBound = true) (f : Frame) :
    s.deliver f = State.emit (.videoRefresh f) { s with presentHeld := true } := if_pos bound

/-- A command body of which a release before it and a release after it make the same outcome. -/
def CommutesWithRelease (s : State) (body : State → Host.Outcome State Fault Refusal) : Prop :=
  mapNext State.releaseFrame (body s) = body s.releaseFrame

namespace CommutesWithRelease

variable {s : State}

theorem of_eq {body : State → Host.Outcome State Fault Refusal}
    (h : mapNext State.releaseFrame (body s) = body s.releaseFrame) : CommutesWithRelease s body := h

theorem raiseFault (v : Violation) (w : Word) : CommutesWithRelease s fun s => .next (s.raiseFault v w) :=
  congrArg Host.Outcome.next (s.raiseFault_releaseFrame v w).symm

/-- The legality table does not read `PRESENT_HELD` (R248). -/
theorem guarded {body : State → Host.Outcome State Fault Refusal} (h : CommutesWithRelease s body) (i : Instr) :
    CommutesWithRelease s fun s => Machine.guarded i s body := by
  refine of_eq ?_
  cases row : legality s.cfg.strictSetters i s.lifecycle with
  | none => rw [guarded_ok row, guarded_ok (s := s.releaseFrame) row, h]
  | some v =>
    rw [guarded_violation row, guarded_violation (s := s.releaseFrame) row]
    exact raiseFault v _

/-- A test that a release does not change, between two such bodies. -/
theorem ite {test : State → Prop} [DecidablePred test] {yes no : State → Host.Outcome State Fault Refusal}
    (same : test s.releaseFrame ↔ test s) (hyes : test s → CommutesWithRelease s yes)
    (hno : ¬ test s → CommutesWithRelease s no) :
    CommutesWithRelease s fun s => if test s then yes s else no s := by
  refine of_eq ?_
  by_cases h : test s
  · rw [if_pos h, if_pos (same.2 h), hyes h]
  · rw [if_neg h, if_neg (mt same.1 h), hno h]

end CommutesWithRelease

/-- Settles O53: only PREPARE_FRAME reads `PRESENT_HELD`, only FINALIZE_FRAME with `VIDEO_BOUND` sets it (R244). -/
theorem releaseCommutes : Obligations.ReleaseCommutes := by
  intro i s notHeld notDelivering
  change CommutesWithRelease s (exec i)
  cases i with
  | openCore p =>
    refine .guarded (.of_eq ?_) _
    have sameDraw : s.releaseFrame.openOk = s.openOk := rfl
    cases draw : s.openOk
    · rw [sameDraw, draw]
      rfl
    · rw [sameDraw, draw]
      rfl
  | prepareFrame =>
    have free : ¬ s.presentHeld = true := fun held => notHeld ⟨rfl, held⟩
    refine .guarded (.ite (by simp [free]) (fun held => absurd held free) fun _ => ?_) _
    refine .ite .rfl (fun _ => .ite .rfl (fun _ => ?_) fun _ => ?_) fun _ => ?_
    all_goals exact .of_eq rfl
  | finalizeFrame =>
    have unbound : s.videoBound = false := eq_false_of_ne_true fun bound => notDelivering ⟨rfl, bound⟩
    refine .guarded (.ite .rfl (fun _ => .of_eq ?_) fun _ => .of_eq ?_) _
    · rw [State.deliver_of_unbound (s := s.endFrame _) unbound,
        State.deliver_of_unbound (s := s.releaseFrame.endFrame _) unbound]
      rfl
    · rfl
  | setDisplayMode x y w h d =>
    refine .guarded (.ite .rfl (fun _ => .of_eq ?_) fun _ => .raiseFault _ _) _
    rfl
  | registerEnvCallback => exact .of_eq rfl
  | registerVideoCallback => exact .of_eq rfl
  | _ =>
    refine .guarded (.of_eq ?_) _
    rfl

end Sys2Proof.Machine

/-! ### FINALIZE_FRAME and its snapshot (R244 to R246) -/

namespace Sys2Proof.Machine

/-- A presented pixel is the cell, cut to 16 bits at 16 bits (R245). -/
theorem presentedPixel_toNat (d24 : Bool) (c : Cell) :
    (presentedPixel d24 c).toNat = if d24 then c.toNat else c.toNat % 2 ^ 16 := by
  cases d24
  · have cut : (presentedPixel false c).toNat = c.toNat &&& (2 ^ 16 - 1) := by simp [presentedPixel]
    rw [cut, Nat.and_two_pow_sub_one_eq_mod]
    rfl
  · rfl

/-- Pixel (i, j) of the snapshot is the cell (DX + i, DY + j) as presented (R245). -/
theorem snapshot_pixel {s : State} {i j : Nat} (hi : i < s.displayMode.dw.toNat) (hj : j < s.displayMode.dh.toNat) :
    ((snapshot s).pix[j]?.bind fun row => row[i]?) =
      some (presentedPixel s.displayMode.d24
        (fbRead s.cfg s.fb (s.displayMode.dx.toNat + i) (s.displayMode.dy.toNat + j))) := by
  simp [snapshot, hi, hj]

/-- In a frame with a legal display mode FINALIZE_FRAME presents the snapshot and delivers it (R244). -/
theorem exec_finalizeFrame_of_inFrame {s : State} (inFrame : s.lifecycle = .inFrame)
    (legal : modeInRange s.cfg s.displayMode = true) :
    exec .finalizeFrame s =
      .next (State.complete .finalizeFrame (State.deliver (snapshot s) (s.endFrame (snapshot s)))) := by
  have row : legality s.cfg.strictSetters .finalizeFrame s.lifecycle = none := by rw [inFrame]; rfl
  rw [exec, execFinalizeFrame, guarded_ok row, if_pos (windowInFb_of_inRange legal)]

/-- Settles O50: the row of R248 in Closed and Idle, else the snapshot, delivered to a sink (R244 to R246). -/
theorem finalizeFrameResult : Obligations.FinalizeFrameResult := by
  refine ⟨by simp [encode, argWords], fun s clear => ⟨fun closed => ?_, fun idle => ?_, fun inFrame legal => ?_⟩⟩
  · have row : legality s.cfg.strictSetters .finalizeFrame s.lifecycle = some .notOpen := by rw [closed]; rfl
    rw [exec_violation clear row, headerWord_finalizeFrame]
    rfl
  · have row : legality s.cfg.strictSetters .finalizeFrame s.lifecycle = some .notInFrame := by rw [idle]; rfl
    rw [exec_violation clear row, headerWord_finalizeFrame]
    rfl
  · obtain ⟨-, -, rows, columns, -⟩ := snapshot_wf legal
    refine ⟨snapshot s, fun unbound => ?_, fun bound => ?_, rfl, rfl, rfl, rows, columns, fun i j hi hj => ?_⟩
    · rw [exec_finalizeFrame_of_inFrame inFrame legal, State.deliver_of_unbound (s := s.endFrame _) unbound]
      rfl
    · rw [exec_finalizeFrame_of_inFrame inFrame legal, State.deliver_of_bound (s := s.endFrame _) bound]
      rfl
    · exact ⟨_, snapshot_pixel hi hj, presentedPixel_toNat _ _⟩

end Sys2Proof.Machine

/-! ### Illegal headers and the legality table's faults (R248, R272 to R276) -/

namespace Sys2Proof.Machine

/-- Settles O8: the decoder refuses the header, and the command processor asks for no lifecycle state (R114, R272). -/
theorem illegalHeaderFaults : Obligations.IllegalHeaderFaults := by
  intro s w0 rest clear turn words row
  obtain ⟨refused, -, -⟩ := decoderVerdicts w0 rest
  have illegal : decode s.stream s.pos = .illegal w0 := by rw [decode, words, refused row]
  rw [step_of_coreTurn turn, coreStep, State.tookTurn_fault, if_pos clear, State.tookTurn_stream, State.tookTurn_pos,
    illegal]
  exact congrArg Host.Outcome.next (State.raiseFault_of_clear (s := s.tookTurn) clear _ _)

section

variable {strict : Bool} {i : Instr}

/-- The column of R248 for Closed (R273). -/
theorem legality_closed (h : opOf i ∉ [Op.openCore, .registerEnvCallback, .registerVideoCallback]) :
    legality strict i .closed = some .notOpen := by
  cases i with
  | openCore => exact absurd (by simp [opOf]) h
  | registerEnvCallback => exact absurd (by simp [opOf]) h
  | registerVideoCallback => exact absurd (by simp [opOf]) h
  | _ => rfl

/-- OPEN's row of R248 outside Closed (R274). -/
theorem legality_open {l : Lifecycle} (notClosed : l ≠ .closed) (h : opOf i = .openCore) :
    legality strict i l = some .alreadyOpen := by
  cases i with
  | openCore => exact whileClosed_of_ne_closed notClosed
  | _ => cases h

/-- The faults in the column of R248 for Idle (R275). -/
theorem legality_idle
    (h : opOf i ∈ [Op.pushTriangle, .finalizeFrame] ∨
      (strict = true ∧ opOf i ∈ [Op.setDrawOffset, .setDrawArea, .setDisplayMode])) :
    legality strict i .idle = some .notInFrame := by
  cases i with
  | pushTriangle => rfl
  | finalizeFrame => rfl
  | setDrawOffset => simpa [opOf, legality, setterRow] using h
  | setDrawArea => simpa [opOf, legality, setterRow] using h
  | setDisplayMode => simpa [opOf, legality, setterRow] using h
  | _ => simp [opOf] at h

/-- The faults but ALREADY_OPEN in the column of R248 for InFrame (R276). -/
theorem legality_inFrame (h : opOf i ∈ [Op.prepareFrame, .closeCore]) :
    legality strict i .inFrame = some .frameInProgress := by
  cases i with
  | prepareFrame => rfl
  | closeCore => rfl
  | _ => simp [opOf] at h

end

/-- Settles O10: each clause is an entry of R248, which the command raises before anything else (R273 to R276). -/
theorem legalityTableFaults : Obligations.LegalityTableFaults := by
  intro s i clear
  refine ⟨fun closed others => ?_, fun notClosed isOpen => ?_, fun idle needsFrame => ?_, fun inFrame needsIdle => ?_⟩
  · exact exec_violation clear (v := .notOpen) (by rw [closed, legality_closed others])
  · exact exec_violation clear (v := .alreadyOpen) (legality_open notClosed isOpen)
  · exact exec_violation clear (v := .notInFrame) (by rw [idle, legality_idle needsFrame])
  · exact exec_violation clear (v := .frameInProgress) (by rw [inFrame, legality_inFrame needsIdle])

end Sys2Proof.Machine

/-! ### The word a fault latches (R270, R279) -/

namespace Sys2Proof

/-- A command's header is the word at `POS` (R100, R101). -/
theorem drop_of_command {stream : List Word} {pos : Nat} {i : Instr} (h : decode stream pos = .command i) :
    ∃ rest, stream.drop pos = headerWord i :: rest := by
  refine ⟨argWords i ++ (stream.drop pos).drop (packetLen i), ?_⟩
  calc stream.drop pos
    _ = (stream.drop pos).take (packetLen i) ++ (stream.drop pos).drop (packetLen i) := (List.take_append_drop _ _).symm
    _ = encode i ++ (stream.drop pos).drop (packetLen i) := by rw [take_packetLen_of_decodeWords h]

/-- The word the decoder calls illegal is the one at `POS` (R108, R109, R114). -/
theorem drop_of_illegal {stream : List Word} {pos : Nat} {w0 : Word} (h : decode stream pos = .illegal w0) :
    ∃ rest, stream.drop pos = w0 :: rest := by
  rw [decode] at h
  generalize stream.drop pos = words at h ⊢
  cases words with
  | nil => cases h
  | cons w args =>
    cases legal : decodeHeader w with
    | none =>
      rw [decodeWords, legal] at h
      cases h
      exact ⟨args, rfl⟩
    | some header =>
      obtain ⟨op, f⟩ := header
      by_cases enough : opLen op ≤ args.length + 1
      · obtain ⟨i, cmd, -, -⟩ := decodeWords_of_enough legal enough
        cases cmd.symm.trans h
      · rw [decodeWords_of_short legal (by omega)] at h
        cases h

end Sys2Proof

namespace Sys2Proof.Machine

/-- A command that latches a fault only raises it, with its own header (R270, R279). -/
theorem exec_latches {i : Instr} {s t : State} (clear : s.fault.code = 0#3) (h : exec i s = .next t)
    (latched : t.fault.code ≠ 0#3) : ∃ v, t = s.raiseFault v (headerWord i) := by
  rcases exec_next h with ⟨v, -, raised⟩ | ⟨-, eff⟩
  · exact ⟨v, raised⟩
  · rcases eff.pos_fault with ⟨-, same⟩ | raised | ⟨rfl, -, -⟩
    · exact absurd (same ▸ clear) latched
    · exact ⟨_, raised⟩
    · exact absurd clear latched

/-- The command processor latches a fault only by raising it, with the word at `POS` (R270, R272, R279). -/
theorem coreStep_latches {s t : State} (clear : s.fault.code = 0#3) (h : coreStep s = .next t)
    (latched : t.fault.code ≠ 0#3) :
    ∃ v w0 rest, s.stream.drop s.pos = w0 :: rest ∧ t = s.raiseFault v w0 := by
  rcases coreStep_next h with ⟨-, rfl⟩ | ⟨-, -, rfl⟩ | ⟨-, -, rfl⟩ | ⟨w0, -, illegal, raised⟩ | ⟨i, -, cmd, hexec⟩
  · exact absurd clear latched
  · exact absurd clear latched
  · exact absurd clear latched
  · obtain ⟨rest, words⟩ := drop_of_illegal illegal
    exact ⟨_, w0, rest, words, raised⟩
  · obtain ⟨v, raised⟩ := exec_latches clear hexec latched
    obtain ⟨rest, words⟩ := drop_of_command cmd
    exact ⟨v, _, rest, words, raised⟩

/-- The codes of R271 are 1 to 6. -/
theorem Violation.code_toNat_range (v : Violation) : 1 ≤ v.code.toNat ∧ v.code.toNat ≤ 6 := by
  obtain ⟨nonzero, notSeven⟩ := v.code_range
  constructor
  · bv_omega
  · bv_omega

/-- Settles O11: neither host move writes `FAULT`, and the command processor raises a fault with the word at `POS` (R279). -/
theorem faultsArePrecise : Obligations.FaultsArePrecise := by
  intro s t clear hstep latched
  rcases step_next hstep with ⟨turn, hcore⟩ | ⟨-, rfl⟩ | ⟨w, -, rfl⟩
  · obtain ⟨v, w0, rest, words, raised⟩ := coreStep_latches (s := s.tookTurn) clear hcore latched
    rw [State.raiseFault_of_clear (s := s.tookTurn) clear] at raised
    subst raised
    exact ⟨turn, w0, rest, words, rfl, v.code_toNat_range⟩
  · exact absurd clear latched
  · exact absurd clear latched

end Sys2Proof.Machine

/-! ### After a fault (R270, R280) -/

namespace Sys2Proof.Machine

/-- What a latched fault lets turns change: the host's stream and turns, and `PRESENT_HELD`, by a release only (R280). -/
structure HostMovesOnly (s t : State) : Prop where
  rest : t = { s with turns := t.turns, stream := t.stream, presentHeld := t.presentHeld }
  turns : t.turns ⊆ s.turns
  falls : t.presentHeld = true → s.presentHeld = true
  kept : Turn.release ∉ s.turns → t.presentHeld = s.presentHeld

namespace HostMovesOnly

theorem refl (s : State) : HostMovesOnly s s := ⟨rfl, List.Subset.refl _, id, fun _ => rfl⟩

theorem trans {s t u : State} (first : HostMovesOnly s t) (second : HostMovesOnly t u) : HostMovesOnly s u where
  rest := by
    have later := second.rest
    rw [first.rest] at later
    exact later
  turns := List.Subset.trans second.turns first.turns
  falls held := first.falls (second.falls held)
  kept noRelease := (second.kept fun later => noRelease (first.turns later)).trans (first.kept noRelease)

theorem fault_eq {s t : State} (h : HostMovesOnly s t) : t.fault = s.fault := by rw [h.rest]

theorem tookTurn (s : State) : HostMovesOnly s s.tookTurn := ⟨rfl, List.tail_subset _, id, fun _ => rfl⟩

theorem sendWord (s : State) (w : Word) : HostMovesOnly s (s.sendWord w) := ⟨rfl, List.Subset.refl _, id, fun _ => rfl⟩

theorem released {s : State} (turn : s.turns.head? = some .release) : HostMovesOnly s s.tookTurn.releaseFrame where
  rest := rfl
  turns := List.tail_subset _
  falls := nofun
  kept noRelease := absurd (List.mem_of_head? turn) noRelease

end HostMovesOnly

/-- With a fault latched the command processor has no step (R270). -/
theorem step_of_latched {s : State} (turn : s.CoreTurn) (latched : s.fault.code ≠ 0#3) : step s = .next s.tookTurn := by
  rw [step_of_coreTurn turn, coreStep, State.tookTurn_fault, if_neg latched]

/-- With a fault latched every turn goes on, and only the host's turns do something (R270, R280). -/
theorem step_hostMovesOnly {s : State} (latched : s.fault.code ≠ 0#3) : ∃ t, step s = .next t ∧ HostMovesOnly s t := by
  have idle (turn : s.CoreTurn) : ∃ t, step s = .next t ∧ HostMovesOnly s t :=
    ⟨_, step_of_latched turn latched, .tookTurn s⟩
  cases turns : s.turns with
  | nil => exact idle (.inl turns)
  | cons a ts =>
    have head : s.turns.head? = some a := by rw [turns]; rfl
    cases a with
    | core => exact idle (.inr head)
    | release => exact ⟨_, step_release head, .released head⟩
    | send w =>
      have sent : step s = .next (s.tookTurn.sendWord w) := by
        rw [step_send turns, State.tookTurn, turns]
        rfl
      exact ⟨_, sent, (HostMovesOnly.tookTurn s).trans (.sendWord _ w)⟩

/-- With a fault latched any number of turns go on, and only the host's do something (R270, R280). -/
theorem run_hostMovesOnly (k : Nat) {s : State} (latched : s.fault.code ≠ 0#3) :
    ∃ t, Host.Core.run core k s = .next t ∧ HostMovesOnly s t := by
  induction k generalizing s with
  | zero => exact ⟨s, run_zero s, .refl s⟩
  | succ k ih =>
    obtain ⟨u, hstep, first⟩ := step_hostMovesOnly latched
    obtain ⟨t, hrun, later⟩ := ih (s := u) (by rw [first.fault_eq]; exact latched)
    exact ⟨t, (run_next k hstep).trans hrun, first.trans later⟩

/-- Settles O12: `run_hostMovesOnly`, by induction on the number of turns (R270, R280). -/
theorem faultIsNeverLeft : Obligations.FaultIsNeverLeft := by
  intro k s latched
  obtain ⟨t, hrun, moves⟩ := run_hostMovesOnly k latched
  exact ⟨t, hrun, moves.rest, moves.falls, moves.kept⟩

end Sys2Proof.Machine

/-! ### Where a run rests (R309) -/

namespace Sys2Proof.Machine

/-- The decoder finds no word exactly where none stands at `POS` (R111, R114). -/
theorem decode_eq_endOfStream_iff {stream : List Word} {pos : Nat} :
    decode stream pos = .endOfStream ↔ stream.length ≤ pos := by
  rw [decode, ← List.drop_eq_nil_iff]
  cases stream.drop pos with
  | nil => exact iff_of_true rfl rfl
  | cons w0 args =>
    refine iff_of_false (fun h => ?_) (List.cons_ne_nil _ _)
    cases legal : decodeHeader w0 with
    | none =>
      rw [decodeWords, legal] at h
      cases h
    | some header =>
      obtain ⟨op, f⟩ := header
      by_cases enough : opLen op ≤ args.length + 1
      · obtain ⟨i, cmd, -, -⟩ := decodeWords_of_enough legal enough
        cases cmd.symm.trans h
      · cases (decodeWords_of_short legal (by omega)).symm.trans h

/-- At the end of the stream the command processor's turn has no effect. -/
theorem step_of_endOfStream {s : State} (turn : s.CoreTurn) (clear : s.fault.code = 0#3)
    (atEnd : decode s.stream s.pos = .endOfStream) : step s = .next s.tookTurn := by
  rw [step_of_coreTurn turn, coreStep, State.tookTurn_fault, if_pos clear, State.tookTurn_stream, State.tookTurn_pos,
    atEnd]

/-- With no host turn left the next turn is the command processor's (R285). -/
theorem State.HostDone.coreTurn {s : State} (done : s.HostDone) : s.CoreTurn := by
  cases turns : s.turns with
  | nil => exact .inl turns
  | cons a ts =>
    have isCore : a = Turn.core := done a (by simp [turns])
    exact .inr (by rw [turns, isCore]; rfl)

/-- With no host turn left the producer has no word left to send (R82). -/
theorem State.HostDone.pendingWords {s : State} (done : s.HostDone) : s.pendingWords = [] := by
  refine List.filterMap_eq_nil_iff.2 fun a ha => ?_
  rw [done a ha]

/-- Raising a fault where none is latched is a change (R270, R271). -/
theorem State.raiseFault_ne_self {s : State} (clear : s.fault.code = 0#3) (v : Violation) (w : Word) :
    s.raiseFault v w ≠ s := by
  intro same
  obtain ⟨-, latched⟩ := s.raiseFault_latches clear v w
  rw [same] at latched
  exact latched clear

/-- Without a fault the only command that leaves the state as it is is a held PREPARE_FRAME: any other moves `POS` or
latches `FAULT` (R31, R242, R270). -/
theorem held_of_exec_self {s : State} {i : Instr} (clear : s.fault.code = 0#3) (h : exec i s = .next s) :
    i = .prepareFrame ∧ s.lifecycle = .idle ∧ s.presentHeld = true := by
  rcases exec_next h with ⟨v, -, raised⟩ | ⟨row, eff⟩
  · exact absurd raised.symm (State.raiseFault_ne_self clear v _)
  · rcases eff.pos_fault with ⟨moved, -⟩ | raised | ⟨-, rfl, held⟩
    · have := packetLen_pos i
      omega
    · exact absurd raised.symm (State.raiseFault_ne_self clear _ _)
    · exact ⟨rfl, eq_idle_of_whileIdle row, held⟩

/-- Without a fault the command processor rests only at the stream's end, at a held PREPARE_FRAME or at an incomplete
packet (R112, R242). -/
theorem coreStep_self_cases {s : State} (clear : s.fault.code = 0#3) (h : coreStep s = .next s) :
    decode s.stream s.pos = .endOfStream ∨ s.Held ∨ s.Waiting := by
  rcases coreStep_next h with
    ⟨latched, -⟩ | ⟨-, atEnd, -⟩ | ⟨-, incomplete, -⟩ | ⟨w0, -, -, raised⟩ | ⟨i, -, cmd, hexec⟩
  · exact absurd clear latched
  · exact .inl atEnd
  · exact .inr (.inr ⟨clear, incomplete⟩)
  · exact absurd raised.symm (State.raiseFault_ne_self clear _ _)
  · obtain ⟨rfl, idle, held⟩ := held_of_exec_self clear hexec
    exact .inr (.inl ⟨clear, cmd, idle, held⟩)

/-- Settles O14: the three ways the command processor can rest are R309's end and its two ways of being stuck. -/
theorem onlyFinalOrStuckStatesRest : Obligations.OnlyFinalOrStuckStatesRest := by
  intro s clear done inside _
  have turn := done.coreTurn
  constructor
  · intro rests
    rw [step_of_coreTurn turn] at rests
    rcases coreStep_self_cases (s := s.tookTurn) clear rests with atEnd | stuck
    · exact .inl ⟨clear, le_antisymm inside (decode_eq_endOfStream_iff.1 atEnd), done.pendingWords⟩
    · exact .inr ⟨done, stuck⟩
  · rintro (⟨-, atEnd, -⟩ | ⟨-, held | wait⟩)
    · exact step_of_endOfStream turn clear (decode_eq_endOfStream_iff.2 atEnd.ge)
    · exact step_of_held held turn
    · exact step_of_waiting turn wait

end Sys2Proof.Machine
